-- ==== Sys2Proof/Word.lean ====
section
/-! DEFINITION. The widths of the block's registers and fields (00_scope.md R6, R8). All values are unsigned, and a
single bit is a `Bool` with `true` for 1. -/

namespace Sys2Proof

/-- A byte: the control byte `ctrl` (10_state.md R23), or one byte of the state image. -/
abbrev Byte := BitVec 8

/-- A conversion code, 0x000 to 0xFFF (00_scope.md R6). -/
abbrev Code := BitVec 12

/-- The output shift register's width (10_state.md R24). -/
abbrev ShiftWord := BitVec 16

/-- The bit countdown's width (10_state.md R22). -/
abbrev Countdown := BitVec 4

/-- A channel selector, 0 to 7 (00_scope.md R6). -/
abbrev Channel := BitVec 3

/-- A power-save selector, 0 to 3 (00_scope.md R6). -/
abbrev PowerSave := BitVec 2

end Sys2Proof
end

