-- ==== Sys2Proof/Config.lean ====
section
/-! DEFINITION. The parameters of the model (00_scope.md R7, 10_state.md R34) as plain data, the external input
snapshot (10_state.md R30), and the values the spec leaves OPEN as constants without a body. -/

namespace Sys2Proof

/-- The coordinate a linear entry reads (43_channel_mapper.md R163). -/
inductive Axis where
  | x
  | y
deriving DecidableEq, Repr, Inhabited

/-- The removable-media-port identities (10_state.md R30). -/
inductive PortId where
  | none
  | usbCradle
  | serialCradle
  | usbPeripheral
  | serialPeripheral
deriving DecidableEq, Repr, Inhabited

/-- The external analog input snapshot `in` (10_state.md R30): rational coordinates, the touch flag and the port
identity. Any rational is representable; R32 says what happens outside [0, 1]. -/
structure Snapshot where
  x : Rat
  y : Rat
  touched : Bool
  port : PortId
deriving DecidableEq, Repr, Inhabited

/-- An entry of `CHANNEL_TABLE` (43_channel_mapper.md R163). The destination bounds are 12-bit by their type. -/
inductive Entry where
  | const (k : Code)
  | linear (axis : Axis) (srcMin srcMax : Rat) (dstMin dstMax : Code)
  | port
deriving DecidableEq, Repr, Inhabited

/-- `PORT_CODE` (43_channel_mapper.md R166): one 12-bit code for each port identity. -/
structure PortCodes where
  none : Code
  usbCradle : Code
  serialCradle : Code
  usbPeripheral : Code
  serialPeripheral : Code
deriving DecidableEq, Repr, Inhabited

/-- `INTERP` (43_channel_mapper.md R165): the default, truncation toward zero, or a rounding of which nothing is known
but that it answers the floor or the ceiling. -/
inductive Interp where
  | truncate
  | neighbour
deriving DecidableEq, Repr, Inhabited

/-- The control-byte layout (00_scope.md R7, 93_implementation_defined.md I8): the bit position, below the start bit at bit
7, of each bit of the channel selector A, of MODE, of SER/DFR and of each bit of the power-save selector PD. -/
structure Layout where
  a2 : Fin 7
  a1 : Fin 7
  a0 : Fin 7
  mode : Fin 7
  ser : Fin 7
  pd1 : Fin 7
  pd0 : Fin 7
deriving DecidableEq, Repr, Inhabited

/-- The five parameters of the model (00_scope.md R7). `table` holds the 32 entries of `CHANNEL_TABLE`, the entry of
(differential, channel, touched) at index 16 * differential + 2 * channel + touched. -/
structure Config where
  table : Vector Entry 32
  portCodes : PortCodes
  interp : Interp
  touchChannels : List Channel
  layout : Layout
deriving DecidableEq, Repr, Inhabited

/-- The code of a table entry the source does not give (43_channel_mapper.md R162, decision D14: OPEN). No body: no
proof can see it. DESIGN CHOICE (log 2). -/
opaque Config.openCode (differential : Bool) (channel : Channel) (touched : Bool) : Code

/-- The code of a port identity (43_channel_mapper.md R166, decision D15: OPEN). No body. DESIGN CHOICE (log 3). -/
opaque Config.openPortCode (p : PortId) : Code

/-- Whether the rounding `Interp.neighbour` takes the ceiling of a value (43_channel_mapper.md R165). No body: R165
lets a model assume no more of `INTERP`. DESIGN CHOICE (log 4). -/
opaque Config.roundsUp (v : Rat) : Bool

end Sys2Proof
end

