-- ==== Sys2Proof/Syntax.lean ====
section
/-! DEFINITION. The sixteen commands of spec/opcode_table.json (30_encoding.md R75), one constructor a row. -/

namespace Sys2Proof

/-- A control byte as a command. The row is the pair (channel, reference); the operands are the bits the row leaves
free: the start bit S (bit 7, never read by the decoder, 30_encoding.md R73), MODE (bit 3, true = 8-bit conversion) and
PD (bits 1:0, the power-save selector), at the widths of 30_encoding.md R71. -/
inductive Instr where
  /-- CONV_CH0_SER: convert channel 0, single-ended reference (42_control_byte.md R131). -/
  | convCh0Ser (start mode8 : Bool) (pd : PowerSave)
  /-- CONV_CH0_DFR: convert channel 0, differential reference (42_control_byte.md R132). -/
  | convCh0Dfr (start mode8 : Bool) (pd : PowerSave)
  /-- CONV_CH1_SER: convert channel 1, single-ended reference (42_control_byte.md R133). -/
  | convCh1Ser (start mode8 : Bool) (pd : PowerSave)
  /-- CONV_CH1_DFR: convert channel 1, differential reference (42_control_byte.md R134). -/
  | convCh1Dfr (start mode8 : Bool) (pd : PowerSave)
  /-- CONV_CH2_SER: convert channel 2, single-ended reference (42_control_byte.md R135). -/
  | convCh2Ser (start mode8 : Bool) (pd : PowerSave)
  /-- CONV_CH2_DFR: convert channel 2, differential reference (42_control_byte.md R136). -/
  | convCh2Dfr (start mode8 : Bool) (pd : PowerSave)
  /-- CONV_CH3_SER: convert channel 3, single-ended reference (42_control_byte.md R137). -/
  | convCh3Ser (start mode8 : Bool) (pd : PowerSave)
  /-- CONV_CH3_DFR: convert channel 3, differential reference (42_control_byte.md R138). -/
  | convCh3Dfr (start mode8 : Bool) (pd : PowerSave)
  /-- CONV_CH4_SER: convert channel 4, single-ended reference (42_control_byte.md R139). -/
  | convCh4Ser (start mode8 : Bool) (pd : PowerSave)
  /-- CONV_CH4_DFR: convert channel 4, differential reference (42_control_byte.md R140). -/
  | convCh4Dfr (start mode8 : Bool) (pd : PowerSave)
  /-- CONV_CH5_SER: convert channel 5, single-ended reference (42_control_byte.md R141). -/
  | convCh5Ser (start mode8 : Bool) (pd : PowerSave)
  /-- CONV_CH5_DFR: convert channel 5, differential reference (42_control_byte.md R142). -/
  | convCh5Dfr (start mode8 : Bool) (pd : PowerSave)
  /-- CONV_CH6_SER: convert channel 6, single-ended reference (42_control_byte.md R143). -/
  | convCh6Ser (start mode8 : Bool) (pd : PowerSave)
  /-- CONV_CH6_DFR: convert channel 6, differential reference (42_control_byte.md R144). -/
  | convCh6Dfr (start mode8 : Bool) (pd : PowerSave)
  /-- CONV_CH7_SER: convert channel 7, single-ended reference (42_control_byte.md R145). -/
  | convCh7Ser (start mode8 : Bool) (pd : PowerSave)
  /-- CONV_CH7_DFR: convert channel 7, differential reference (42_control_byte.md R146). -/
  | convCh7Dfr (start mode8 : Bool) (pd : PowerSave)
deriving DecidableEq, Repr

end Sys2Proof
end

