-- ==== Sys2Proof/WellFormed.lean ====
section
/-! DEFINITION. The checks on data that comes from outside. Every term of `Instr` is a command: its operands carry their
widths in their types, and no control byte is illegal or reserved (30_encoding.md R73). What can fail is how a command
stands on the line (its start bit), whether a snapshot lies in the stated range, and whether a layout is a permutation. -/

namespace Sys2Proof

/-- The start bit of a command (30_encoding.md R71, bit 7). -/
def Instr.start : Instr → Bool
  | .convCh0Ser st _ _ => st
  | .convCh0Dfr st _ _ => st
  | .convCh1Ser st _ _ => st
  | .convCh1Dfr st _ _ => st
  | .convCh2Ser st _ _ => st
  | .convCh2Dfr st _ _ => st
  | .convCh3Ser st _ _ => st
  | .convCh3Dfr st _ _ => st
  | .convCh4Ser st _ _ => st
  | .convCh4Dfr st _ _ => st
  | .convCh5Ser st _ _ => st
  | .convCh5Dfr st _ _ => st
  | .convCh6Ser st _ _ => st
  | .convCh6Dfr st _ _ => st
  | .convCh7Ser st _ _ => st
  | .convCh7Dfr st _ _ => st

/-- A command as the engine frames it: its start bit is 1 (30_encoding.md R70, R71). A command that is not framed still
decodes and runs; it can stand in `ctrl` only after a `load` (R73). -/
def Instr.framed (i : Instr) : Bool := i.start

/-- A coordinate inside the stated range [0, 1] (10_state.md R30, R32). -/
def inUnit (q : Rat) : Bool := decide (0 ≤ q) && decide (q ≤ 1)

/-- A snapshot with both coordinates in range (10_state.md R32). -/
def Snapshot.inRange (i : Snapshot) : Bool := inUnit i.x && inUnit i.y

/-- The positions a layout gives, from A's high bit to PD's low bit. -/
def Layout.positions (l : Layout) : List (Fin 7) := [l.a2, l.a1, l.a0, l.mode, l.ser, l.pd1, l.pd0]

/-- A layout is a permutation of bits 6:0: no two field bits share a position (92_eei_decisions.md D1, "another
permutation"). DEDUCED (log 6). -/
def Layout.isPermutation (l : Layout) : Bool := decide l.positions.Nodup

end Sys2Proof
end

