-- ==== Sys2Proof/Decode.lean ====
section
/-! DEFINITION. The decoder and the encoder of control bytes (30_encoding.md R70 to R75, 42_control_byte.md R130). -/

namespace Sys2Proof

/-- The decoder's four fields (42_control_byte.md R130). -/
structure Fields where
  mode8 : Bool
  differential : Bool
  channel : Channel
  powerSave : PowerSave
deriving DecidableEq, Repr

/-- The default layout (30_encoding.md R71, decision D1): A at bits 6:4, MODE at bit 3, SER/DFR at bit 2, PD at bits 1:0.
PRESUMED, the family's (log 6). The opcode table's words are written in it. -/
def Layout.standard : Layout where
  a2 := 6
  a1 := 5
  a0 := 4
  mode := 3
  ser := 2
  pd1 := 1
  pd0 := 0

/-- DECODE: the fields of a control byte under a layout, by zero extension with no scaling (42_control_byte.md R130,
30_encoding.md R72). Bit 7 is not read. -/
def decodeFields (l : Layout) (ctrl : Byte) : Fields where
  mode8 := ctrl.getLsbD l.mode.val
  differential := !ctrl.getLsbD l.ser.val
  channel := BitVec.ofBool (ctrl.getLsbD l.a2.val) ++ BitVec.ofBool (ctrl.getLsbD l.a1.val)
    ++ BitVec.ofBool (ctrl.getLsbD l.a0.val)
  powerSave := BitVec.ofBool (ctrl.getLsbD l.pd1.val) ++ BitVec.ofBool (ctrl.getLsbD l.pd0.val)

/-- The command with these fields: the pair (A, SER/DFR) selects the row, MODE and PD are its operands (30_encoding.md
R75), and so is the start bit. -/
def commandOf (start : Bool) (f : Fields) : Instr :=
  match f.channel.getLsbD 2, f.channel.getLsbD 1, f.channel.getLsbD 0, f.differential with
  | false, false, false, false => .convCh0Ser start f.mode8 f.powerSave
  | false, false, false, true => .convCh0Dfr start f.mode8 f.powerSave
  | false, false, true, false => .convCh1Ser start f.mode8 f.powerSave
  | false, false, true, true => .convCh1Dfr start f.mode8 f.powerSave
  | false, true, false, false => .convCh2Ser start f.mode8 f.powerSave
  | false, true, false, true => .convCh2Dfr start f.mode8 f.powerSave
  | false, true, true, false => .convCh3Ser start f.mode8 f.powerSave
  | false, true, true, true => .convCh3Dfr start f.mode8 f.powerSave
  | true, false, false, false => .convCh4Ser start f.mode8 f.powerSave
  | true, false, false, true => .convCh4Dfr start f.mode8 f.powerSave
  | true, false, true, false => .convCh5Ser start f.mode8 f.powerSave
  | true, false, true, true => .convCh5Dfr start f.mode8 f.powerSave
  | true, true, false, false => .convCh6Ser start f.mode8 f.powerSave
  | true, true, false, true => .convCh6Dfr start f.mode8 f.powerSave
  | true, true, true, false => .convCh7Ser start f.mode8 f.powerSave
  | true, true, true, true => .convCh7Dfr start f.mode8 f.powerSave

/-- The command a control byte is, under a layout. Every byte is a command (30_encoding.md R73). -/
def decode (l : Layout) (ctrl : Byte) : Instr := commandOf (ctrl.getLsbD 7) (decodeFields l ctrl)

/-- What the decoder answers on a list of bytes: a command and the bytes after it, or a rejection by name. -/
inductive Decoded where
  | command (i : Instr) (rest : List Byte)
  /-- No byte to decode: a command is exactly one byte (30_encoding.md R70). -/
  | noControlByte
deriving DecidableEq, Repr

/-- Read one command from a list of bytes (30_encoding.md R70: every command is exactly 8 bits). -/
def decodeBytes (l : Layout) : List Byte → Decoded
  | [] => .noControlByte
  | b :: rest => .command (decode l b) rest

/-- The bytes of a word of `nbits` bits, the least significant first. -/
def bytesOfWord (nbits w : Nat) : List Byte :=
  (List.range ((nbits + 7) / 8)).map fun k => BitVec.ofNat 8 ((w % 2 ^ nbits) >>> (8 * k))

/-- The instruction the decoder reads from a row's word, in the opcode table's own layout. -/
def decodeTableWord (nbits w : Nat) : Option Instr :=
  match decodeBytes Layout.standard (bytesOfWord nbits w) with
  | .command i _ => some i
  | .noControlByte => none

/-- The fields of a command: its row's channel and reference, and its operands (42_control_byte.md R130 to R146). -/
def Instr.fields : Instr → Fields
  | .convCh0Ser _ m p => ⟨m, false, 0, p⟩
  | .convCh0Dfr _ m p => ⟨m, true, 0, p⟩
  | .convCh1Ser _ m p => ⟨m, false, 1, p⟩
  | .convCh1Dfr _ m p => ⟨m, true, 1, p⟩
  | .convCh2Ser _ m p => ⟨m, false, 2, p⟩
  | .convCh2Dfr _ m p => ⟨m, true, 2, p⟩
  | .convCh3Ser _ m p => ⟨m, false, 3, p⟩
  | .convCh3Dfr _ m p => ⟨m, true, 3, p⟩
  | .convCh4Ser _ m p => ⟨m, false, 4, p⟩
  | .convCh4Dfr _ m p => ⟨m, true, 4, p⟩
  | .convCh5Ser _ m p => ⟨m, false, 5, p⟩
  | .convCh5Dfr _ m p => ⟨m, true, 5, p⟩
  | .convCh6Ser _ m p => ⟨m, false, 6, p⟩
  | .convCh6Dfr _ m p => ⟨m, true, 6, p⟩
  | .convCh7Ser _ m p => ⟨m, false, 7, p⟩
  | .convCh7Dfr _ m p => ⟨m, true, 7, p⟩

/-- MODE, the bit-depth operand (30_encoding.md R71, bit 3). -/
def Instr.mode8 (i : Instr) : Bool := i.fields.mode8

/-- PD, the power-save operand (30_encoding.md R71, bits 1:0). -/
def Instr.pd (i : Instr) : PowerSave := i.fields.powerSave

/-- The row's match value in the default layout (30_encoding.md R75, spec/opcode_table.json). -/
def Instr.matchBits : Instr → Byte
  | .convCh0Ser .. => 0x04#8
  | .convCh0Dfr .. => 0x00#8
  | .convCh1Ser .. => 0x14#8
  | .convCh1Dfr .. => 0x10#8
  | .convCh2Ser .. => 0x24#8
  | .convCh2Dfr .. => 0x20#8
  | .convCh3Ser .. => 0x34#8
  | .convCh3Dfr .. => 0x30#8
  | .convCh4Ser .. => 0x44#8
  | .convCh4Dfr .. => 0x40#8
  | .convCh5Ser .. => 0x54#8
  | .convCh5Dfr .. => 0x50#8
  | .convCh6Ser .. => 0x64#8
  | .convCh6Dfr .. => 0x60#8
  | .convCh7Ser .. => 0x74#8
  | .convCh7Dfr .. => 0x70#8

/-- The mask every row matches under in the default layout (30_encoding.md R75): bits 6:4 and bit 2. -/
def rowMask : Byte := 0x74#8

/-- One bit of a control byte at a position, every other bit 0. -/
def bitAt (position : Nat) (b : Bool) : Byte := (BitVec.ofBool b).setWidth 8 <<< position

/-- The control byte of fields under a layout, with the start bit at bit 7 (30_encoding.md R71). -/
def encodeFields (l : Layout) (start : Bool) (f : Fields) : Byte :=
  bitAt 7 start ||| bitAt l.a2.val (f.channel.getLsbD 2) ||| bitAt l.a1.val (f.channel.getLsbD 1)
    ||| bitAt l.a0.val (f.channel.getLsbD 0) ||| bitAt l.mode.val f.mode8 ||| bitAt l.ser.val (!f.differential)
    ||| bitAt l.pd1.val (f.powerSave.getLsbD 1) ||| bitAt l.pd0.val (f.powerSave.getLsbD 0)

/-- The control byte of a command under a layout (30_encoding.md R71). -/
def encode (l : Layout) (i : Instr) : Byte := encodeFields l i.start i.fields

end Sys2Proof
end

