-- ==== Sys2Proof/Machine/Defaults.lean ====
section
/-! DEFINITION. The entries of `CHANNEL_TABLE` the source fixes, and the configuration `State.reset` carries (00_scope.md
R7, 43_channel_mapper.md R162 to R169). -/

namespace Sys2Proof

/-- The entry `CHANNEL_TABLE(0, 5, 1)` the source fixes (43_channel_mapper.md R167, decision D16). -/
def Config.channel5Touched : Entry := .linear .x 0 1 0x0FD#12 0xF47#12

/-- The entry `CHANNEL_TABLE(0, 5, 0)` the source fixes (43_channel_mapper.md R168). -/
def Config.channel5Dormant : Entry := .const 0x3FB#12

/-- The entries `CHANNEL_TABLE(1, 0, t)` the source fixes (43_channel_mapper.md R169). -/
def Config.channel0Differential : Entry := .const 0xFFF#12

/-- A constant entry whose code the spec leaves OPEN. -/
def Config.openConst (differential : Bool) (channel : Channel) (touched : Bool) : Entry :=
  .const (Config.openCode differential channel touched)

/-- The configuration `State.reset` carries: the four fixed entries (R167 to R169), the port lookup at its default
place (R166), every OPEN code free, `INTERP`, `TOUCH_CHANNELS` and the layout at their defaults (00_scope.md R7). DESIGN
CHOICE (log 1, 2, 3): the spec makes the configuration an argument; the OPEN touched entries are constants here only. -/
def Config.atReset : Config where
  table := #v[
    Config.openConst false 0 false, Config.openConst false 0 true, Config.openConst false 1 false, Config.openConst false 1 true,
    Config.openConst false 2 false, Config.openConst false 2 true, Config.openConst false 3 false, Config.openConst false 3 true,
    Config.openConst false 4 false, Config.openConst false 4 true, Config.channel5Dormant, Config.channel5Touched,
    .port, .port, Config.openConst false 7 false, Config.openConst false 7 true,
    Config.channel0Differential, Config.channel0Differential, Config.openConst true 1 false, Config.openConst true 1 true,
    Config.openConst true 2 false, Config.openConst true 2 true, Config.openConst true 3 false, Config.openConst true 3 true,
    Config.openConst true 4 false, Config.openConst true 4 true, Config.openConst true 5 false, Config.openConst true 5 true,
    Config.openConst true 6 false, Config.openConst true 6 true, Config.openConst true 7 false, Config.openConst true 7 true]
  portCodes :=
    { none := Config.openPortCode .none
      usbCradle := Config.openPortCode .usbCradle
      serialCradle := Config.openPortCode .serialCradle
      usbPeripheral := Config.openPortCode .usbPeripheral
      serialPeripheral := Config.openPortCode .serialPeripheral }
  interp := .truncate
  touchChannels := [1, 3, 4, 5]
  layout := Layout.standard

end Sys2Proof
end

