-- ==== Sys2Proof/Machine/State.lean ====
section
/-! DEFINITION. The machine's state: the six elements the spec gives the block (10_state.md R20) and, beside them, what
the spec hands to each operation from outside (R34) and what the host records (30_encoding.md R81). -/

namespace Sys2Proof.Machine

/-- No fault exists: the block raises no exception and takes no trap (60_exceptions.md R220, R231). Safe. -/
inductive Fault where
deriving DecidableEq, Repr

/-- The uses to which the model gives no meaning (60_exceptions.md R221). -/
inductive Refusal where
  /-- Raised by no operation: every row of the opcode table has its meaning. Safe. -/
  | notModelled (mnemonic : String)
  /-- Raised by `load` on fewer than 6 bytes (44_state_image.md R204). Safe. -/
  | shortImage
  /-- Raised by `load` on a boolean byte above 1 or a countdown byte above 15 (44_state_image.md R204). Safe. -/
  | invalidImage
  /-- Raised by a conversion that reads a coordinate outside [0, 1] (10_state.md R32). Safe. -/
  | inputOutOfRange
  /-- Raised by a conversion under a configuration that breaks 43_channel_mapper.md R167 to R171, has not four distinct
  touch channels (log 5), or whose layout is no permutation (log 6). Safe. -/
  | illFormedConfig
deriving DecidableEq, Repr

/-- The interface operations of 30_encoding.md R80, and the host's move `INPUT` of R81. -/
inductive BusOp where
  /-- Drive `CS_N` to a level, true = high (40_chip_select.md R100). -/
  | setChipSelect (level : Bool)
  /-- One `SCLK` edge with `DIN` at this level (41_bit_engine.md R110). -/
  | exchangeBit (din : Bool)
  /-- Pulse `RESET` (70_reset_and_hazards.md R260). -/
  | hardReset
  /-- Pulse `REFRESH` (60_exceptions.md R229). -/
  | refreshPenIrq
  /-- Sample `PEN_IRQ` (60_exceptions.md R228). -/
  | getPenIrq
  /-- Ask the image port for the image's size (44_state_image.md R200). -/
  | size
  /-- Read the state image (44_state_image.md R202). -/
  | save
  /-- Write the state image (44_state_image.md R203). -/
  | load (image : List Byte)
  /-- The host replaces the input snapshot; no operation of the block (30_encoding.md R81). -/
  | input (snapshot : Snapshot)
deriving DecidableEq, Repr

/-- What the operations have answered, oldest first: the output record, the IRQ record and the image record of
30_encoding.md R81, and the answers of `size`. The model's own, no state of the block. DESIGN CHOICE (log 10). -/
structure Records where
  dout : List Bool
  irq : List Bool
  image : List (List Byte)
  size : List Nat
deriving DecidableEq, Repr

/-- The machine. `csN` to `penIrq` are the block's state (10_state.md R20); `inp`, `cfg`, `script` and `out` are the
model's own fields (log 1, 7, 8, 10). -/
structure State where
  /-- `cs_n`: the chip-select line's level, true = 1 = deselected (10_state.md R21). -/
  csN : Bool
  /-- `cd`: BitCountdown (10_state.md R22). -/
  cd : Countdown
  /-- `ctrl`: ControlByte (10_state.md R23). -/
  ctrl : Byte
  /-- `osr`: OutputShiftRegister (10_state.md R24). -/
  osr : ShiftWord
  /-- `pen_en`: PenInterruptEnabled (10_state.md R25). -/
  penEn : Bool
  /-- `pen_irq`: the published level (10_state.md R26). -/
  penIrq : Bool
  /-- `in`: the input snapshot current at the next operation (10_state.md R30, R31). -/
  inp : Snapshot
  /-- The parameters of the model (00_scope.md R7). -/
  cfg : Config
  /-- The interface operations the host has yet to drive, oldest first (30_encoding.md R81). -/
  script : List BusOp
  /-- The answers recorded so far (30_encoding.md R81). -/
  out : Records
deriving DecidableEq, Repr

/-- The snapshot `State.reset` carries: no touch, no port, both coordinates 0. DESIGN CHOICE (log 7): the spec leaves
the inputs to the host. -/
def inputAtReset : Snapshot := { x := 0, y := 0, touched := false, port := .none }

/-- The power-on state under a configuration and a power-on snapshot (70_reset_and_hazards.md R261). The level is what
60_exceptions.md R224 computes from `pen_en = 1` and channel 0, as 10_state.md R26 says: `in.touched`, unless a
configuration lists channel 0 among `TOUCH_CHANNELS`. There R224 gives 0 against the "if and only if" of R26 and R261, and
the model takes R224. DESIGN CHOICE (log 24). -/
def State.powerOn (cfg : Config) (inp : Snapshot) : State where
  csN := true
  cd := 0
  ctrl := 0x00
  osr := 0x0000
  penEn := true
  penIrq := inp.touched && !cfg.touchChannels.contains 0
  inp := inp
  cfg := cfg
  script := []
  out := { dout := [], irq := [], image := [], size := [] }

/-- The machine right after reset (70_reset_and_hazards.md R261): the power-on state, with nothing pending. -/
def State.reset : State := State.powerOn Config.atReset inputAtReset

end Sys2Proof.Machine
end

