-- ==== Sys2Proof/Machine/Flags.lean ====
section
/-! DEFINITION. The block's two status bits: how `pen_en` and `pen_irq` are computed. There is no other flag
(10_state.md R37). -/

namespace Sys2Proof.Machine

/-- `pen_en` after a conversion: the negation of the power-save field's low bit (43_channel_mapper.md R175). -/
def penEnableOf (pd : PowerSave) : Bool := !pd.getLsbD 0

/-- The level a publish event computes (60_exceptions.md R224): enabled, touched, and not a touch channel. -/
def penIrqLevel (penEn touched : Bool) (channel : Channel) (touchChannels : List Channel) : Bool :=
  penEn && touched && !touchChannels.contains channel

end Sys2Proof.Machine
end

