-- ==== Sys2Proof/Machine/Operands.lean ====
section
/-! DEFINITION. Reading the operands of a command: the views of `ctrl`, the entries of the channel table and their
values, the power-save override, and when a configuration is well-formed (10_state.md R27, R28; 43_channel_mapper.md). -/

namespace Sys2Proof.Machine

/-- The block is selected when the line is low (10_state.md R27). -/
def State.selected (s : State) : Bool := !s.csN

/-- The decoder's view of `ctrl`, under the configuration's layout (10_state.md R28, 42_control_byte.md R130). -/
def State.view (s : State) : Fields := decodeFields s.cfg.layout s.ctrl

/-- The channel selector in `ctrl` (10_state.md R28). -/
def State.ch (s : State) : Channel := s.view.channel

/-- The bit-depth flag in `ctrl` (10_state.md R28). -/
def State.mode8 (s : State) : Bool := s.view.mode8

/-- The reference flag in `ctrl`, true = single-ended (10_state.md R28). -/
def State.ser (s : State) : Bool := !s.view.differential

/-- Whether `ctrl` selects the differential reference (10_state.md R28). -/
def State.differential (s : State) : Bool := s.view.differential

/-- The power-save field in `ctrl` (10_state.md R28). -/
def State.pd (s : State) : PowerSave := s.view.powerSave

/-- The coordinate an axis names (43_channel_mapper.md R163). -/
def coordinate (inp : Snapshot) : Axis → Rat
  | .x => inp.x
  | .y => inp.y

/-- The exact value of the linear map, before it becomes an integer (43_channel_mapper.md R164). -/
def linearValue (srcMin srcMax : Rat) (dstMin dstMax : Code) (v : Rat) : Rat :=
  (v - srcMin) / (srcMax - srcMin) * ((dstMax.toNat : Rat) - (dstMin.toNat : Rat)) + (dstMin.toNat : Rat)

/-- `INTERP` (43_channel_mapper.md R165): truncation toward zero, or an unknown choice of floor and ceiling. -/
def interpolate (m : Interp) (v : Rat) : Int :=
  match m with
  | .truncate => v.num.tdiv v.den
  | .neighbour => if Config.roundsUp v then v.ceil else v.floor

/-- `PORT_CODE` (43_channel_mapper.md R166). -/
def portCode (p : PortCodes) : PortId → Code
  | .none => p.none
  | .usbCradle => p.usbCradle
  | .serialCradle => p.serialCradle
  | .usbPeripheral => p.usbPeripheral
  | .serialPeripheral => p.serialPeripheral

/-- The index of `CHANNEL_TABLE(differential, channel, touched)` in a configuration's table. -/
def tableIndex (differential : Bool) (channel : Channel) (touched : Bool) : BitVec 5 :=
  BitVec.ofBool differential ++ channel ++ BitVec.ofBool touched

/-- `CHANNEL_TABLE(differential, channel, touched)` (43_channel_mapper.md R162). -/
def channelTable (cfg : Config) (differential : Bool) (channel : Channel) (touched : Bool) : Entry :=
  cfg.table[(tableIndex differential channel touched).toNat]'(tableIndex differential channel touched).isLt

/-- The value of an entry (43_channel_mapper.md R163, R164, R166). A linear entry reads one coordinate, which must lie in
[0, 1] (10_state.md R32); the other kinds read none. -/
def entryCode (cfg : Config) (inp : Snapshot) : Entry → Except Refusal Code
  | .const k => .ok k
  | .linear axis srcMin srcMax dstMin dstMax =>
    if inUnit (coordinate inp axis) then
      .ok (BitVec.ofInt 12 (interpolate cfg.interp (linearValue srcMin srcMax dstMin dstMax (coordinate inp axis))))
    else .error .inputOutOfRange
  | .port => .ok (portCode cfg.portCodes inp.port)

/-- The "ADC disabled" override of PD = 2 (43_channel_mapper.md R161). -/
def pd2Code (channel : Channel) (touched : Bool) : Code :=
  if (channel == 3 || channel == 5) && !touched then 0x000 else 0xFFF

/-- The code of a conversion: the override when PD = 2, the table's value otherwise (43_channel_mapper.md R160). -/
def conversionCode (f : Fields) (cfg : Config) (inp : Snapshot) : Except Refusal Code :=
  if f.powerSave == 2 then .ok (pd2Code f.channel inp.touched)
  else entryCode cfg inp (channelTable cfg f.differential f.channel inp.touched)

/-- The stored form of a code: left-justified (43_channel_mapper.md R172), and with the low 8 bits cleared in 8-bit mode
(R173). -/
def justify (mode8 : Bool) (code : Code) : ShiftWord :=
  if mode8 then (code.setWidth 16 <<< 4) &&& 0xFF00 else code.setWidth 16 <<< 4

/-- An integer that is a code (43_channel_mapper.md R171). -/
def isCode (n : Int) : Bool := decide (0 ≤ n) && decide (n ≤ 0xFFF)

/-- An endpoint value of a linear entry becomes a code, whatever the rounding may choose (43_channel_mapper.md R171). -/
def endpointOk (m : Interp) (v : Rat) : Bool :=
  match m with
  | .truncate => isCode (interpolate .truncate v)
  | .neighbour => isCode v.floor && isCode v.ceil

/-- R163 and R171 for an entry: a linear entry's source range is no single point, and both endpoint values become
codes. Constants and port codes are 12-bit by construction. -/
def entryRangeOk (m : Interp) : Entry → Bool
  | .linear _ srcMin srcMax dstMin dstMax =>
    decide (srcMin ≠ srcMax) && endpointOk m (linearValue srcMin srcMax dstMin dstMax 0)
      && endpointOk m (linearValue srcMin srcMax dstMin dstMax 1)
  | _ => true

/-- R170 for an entry: a touch channel's dormant entry is constant and its touched entry constant or linear; any other
channel's entries are constant, or the port lookup. -/
def entryShapeOk (isTouchChannel touched : Bool) : Entry → Bool
  | .const _ => true
  | .linear .. => isTouchChannel && touched
  | .port => !isTouchChannel

/-- The entries the source fixes (43_channel_mapper.md R167 to R169). -/
def fixedEntry (differential : Bool) (channel : Channel) (touched : Bool) : Option Entry :=
  if !differential && channel == 5 && touched then some Config.channel5Touched
  else if !differential && channel == 5 && !touched then some Config.channel5Dormant
  else if differential && channel == 0 then some Config.channel0Differential
  else none

/-- One key of a well-formed table: the shape of R170, the fixed entry where the source gives one, the range of R171
elsewhere (R167 lies in range). -/
def keyOk (cfg : Config) (differential : Bool) (channel : Channel) (touched : Bool) : Bool :=
  entryShapeOk (cfg.touchChannels.contains channel) touched (channelTable cfg differential channel touched)
    && match fixedEntry differential channel touched with
      | some e => decide (channelTable cfg differential channel touched = e)
      | none => entryRangeOk cfg.interp (channelTable cfg differential channel touched)

/-- The eight channels. -/
def allChannels : List Channel := [0, 1, 2, 3, 4, 5, 6, 7]

/-- A well-formed configuration (43_channel_mapper.md R167 to R171, decision D14), with four distinct touch channels
and a layout that is a permutation (00_scope.md R7). DEDUCED (log 5, 6, 12, 13). -/
def configOk (cfg : Config) : Bool :=
  decide (cfg.touchChannels.length = 4) && decide cfg.touchChannels.Nodup && cfg.layout.isPermutation
    && allChannels.all fun c =>
      keyOk cfg false c false && keyOk cfg false c true && keyOk cfg true c false && keyOk cfg true c true

end Sys2Proof.Machine
end

