-- ==== Sys2Proof/Machine/Ops.lean ====
section
/-! DEFINITION. The named operations every meaning is built from: publishing the interrupt level, the reset sequence,
storing a code, the conversion, driving one bit out, and the records. The block takes no exception (60_exceptions.md
R220, R231), so no operation enters or returns from one: `publish` is all an interrupt does inside the block. -/

namespace Sys2Proof.Machine

/-- Change the next state of an outcome; a stop stays as it is. -/
def mapNext (f : State → State) : Host.Outcome State Fault Refusal → Host.Outcome State Fault Refusal
  | .next s => .next (f s)
  | .fault r => .fault r
  | .refused r => .refused r

/-- Go on from the next state of an outcome; a stop stays as it is. -/
def bindNext (f : State → Host.Outcome State Fault Refusal) :
    Host.Outcome State Fault Refusal → Host.Outcome State Fault Refusal
  | .next s => f s
  | .fault r => .fault r
  | .refused r => .refused r

/-- `publish()` (60_exceptions.md R224): recompute the latch `pen_irq`, the only state it writes. -/
def publish (s : State) : State :=
  { s with penIrq := penIrqLevel s.penEn s.inp.touched s.ch s.cfg.touchChannels }

/-- The reset sequence (40_chip_select.md R101): four writes, then the publish that reads them. The line level is not
written. Where a configuration lists channel 0 among `TOUCH_CHANNELS`, the publish gives 0, as 60_exceptions.md R224
says, against the `in.touched` of R105: DESIGN CHOICE (log 24). -/
def resetSequence (s : State) : State :=
  publish { s with cd := 0, ctrl := 0x00, penEn := true, osr := 0x0000 }

/-- Store a code (43_channel_mapper.md R172 to R174): `osr` takes its stored form, and 8-bit mode takes 4 off the
countdown. -/
def storeCode (mode8 : Bool) (code : Code) (s : State) : State :=
  { s with osr := justify mode8 code, cd := if mode8 then s.cd - 4 else s.cd }

/-- What a conversion does once its code is known (43_channel_mapper.md R160): store it, set `pen_en`, publish. -/
def finishConversion (f : Fields) (code : Code) (s : State) : State :=
  publish { storeCode f.mode8 code s with penEn := penEnableOf f.powerSave }

/-- `convert()` (43_channel_mapper.md R160), the operation every command shares, on the fields of the command. An
ill-formed configuration is refused before any conversion (R171, 70_reset_and_hazards.md R264). -/
def convert (f : Fields) (s : State) : Host.Outcome State Fault Refusal :=
  if configOk s.cfg then
    match conversionCode f s.cfg s.inp with
    | .ok code => .next (finishConversion f code s)
    | .error r => .refused r
  else .refused .illFormedConfig

/-- Append a bit to the output record (30_encoding.md R81). -/
def recordDout (b : Bool) (s : State) : State :=
  { s with out := { s.out with dout := s.out.dout ++ [b] } }

/-- Step 5 of a selected clock (41_bit_engine.md R110): the high bit of `osr` goes out, and `osr` shifts left. -/
def driveOut (s : State) : State :=
  { recordDout s.osr.msb s with osr := s.osr <<< 1 }

end Sys2Proof.Machine
end

