-- ==== Sys2Proof/Machine/Differential.lean ====
section
/-! DEFINITION. The eight differential commands (42_control_byte.md): each is the conversion of its own channel under its
reference. A command takes effect at its conversion clock, on the state in which the countdown has just become 6. -/

namespace Sys2Proof.Machine

/-- CONV_CH0_DFR (42_control_byte.md R132): convert channel 0, differential reference. -/
def execConvCh0Dfr (mode8 : Bool) (pd : PowerSave) (s : State) : Host.Outcome State Fault Refusal :=
  convert ⟨mode8, true, 0, pd⟩ s

/-- CONV_CH1_DFR (42_control_byte.md R134): convert channel 1, differential reference. -/
def execConvCh1Dfr (mode8 : Bool) (pd : PowerSave) (s : State) : Host.Outcome State Fault Refusal :=
  convert ⟨mode8, true, 1, pd⟩ s

/-- CONV_CH2_DFR (42_control_byte.md R136): convert channel 2, differential reference. -/
def execConvCh2Dfr (mode8 : Bool) (pd : PowerSave) (s : State) : Host.Outcome State Fault Refusal :=
  convert ⟨mode8, true, 2, pd⟩ s

/-- CONV_CH3_DFR (42_control_byte.md R138): convert channel 3, differential reference. -/
def execConvCh3Dfr (mode8 : Bool) (pd : PowerSave) (s : State) : Host.Outcome State Fault Refusal :=
  convert ⟨mode8, true, 3, pd⟩ s

/-- CONV_CH4_DFR (42_control_byte.md R140): convert channel 4, differential reference. -/
def execConvCh4Dfr (mode8 : Bool) (pd : PowerSave) (s : State) : Host.Outcome State Fault Refusal :=
  convert ⟨mode8, true, 4, pd⟩ s

/-- CONV_CH5_DFR (42_control_byte.md R142): convert channel 5, differential reference. -/
def execConvCh5Dfr (mode8 : Bool) (pd : PowerSave) (s : State) : Host.Outcome State Fault Refusal :=
  convert ⟨mode8, true, 5, pd⟩ s

/-- CONV_CH6_DFR (42_control_byte.md R144): convert channel 6, differential reference. -/
def execConvCh6Dfr (mode8 : Bool) (pd : PowerSave) (s : State) : Host.Outcome State Fault Refusal :=
  convert ⟨mode8, true, 6, pd⟩ s

/-- CONV_CH7_DFR (42_control_byte.md R146): convert channel 7, differential reference. -/
def execConvCh7Dfr (mode8 : Bool) (pd : PowerSave) (s : State) : Host.Outcome State Fault Refusal :=
  convert ⟨mode8, true, 7, pd⟩ s

end Sys2Proof.Machine
end

