-- ==== Sys2Proof/Machine/SingleEnded.lean ====
section
/-! DEFINITION. The eight single-ended commands (42_control_byte.md): each is the conversion of its own channel under its
reference. A command takes effect at its conversion clock, on the state in which the countdown has just become 6. -/

namespace Sys2Proof.Machine

/-- CONV_CH0_SER (42_control_byte.md R131): convert channel 0, single-ended reference. -/
def execConvCh0Ser (mode8 : Bool) (pd : PowerSave) (s : State) : Host.Outcome State Fault Refusal :=
  convert ⟨mode8, false, 0, pd⟩ s

/-- CONV_CH1_SER (42_control_byte.md R133): convert channel 1, single-ended reference. -/
def execConvCh1Ser (mode8 : Bool) (pd : PowerSave) (s : State) : Host.Outcome State Fault Refusal :=
  convert ⟨mode8, false, 1, pd⟩ s

/-- CONV_CH2_SER (42_control_byte.md R135): convert channel 2, single-ended reference. -/
def execConvCh2Ser (mode8 : Bool) (pd : PowerSave) (s : State) : Host.Outcome State Fault Refusal :=
  convert ⟨mode8, false, 2, pd⟩ s

/-- CONV_CH3_SER (42_control_byte.md R137): convert channel 3, single-ended reference. -/
def execConvCh3Ser (mode8 : Bool) (pd : PowerSave) (s : State) : Host.Outcome State Fault Refusal :=
  convert ⟨mode8, false, 3, pd⟩ s

/-- CONV_CH4_SER (42_control_byte.md R139): convert channel 4, single-ended reference. -/
def execConvCh4Ser (mode8 : Bool) (pd : PowerSave) (s : State) : Host.Outcome State Fault Refusal :=
  convert ⟨mode8, false, 4, pd⟩ s

/-- CONV_CH5_SER (42_control_byte.md R141): convert channel 5, single-ended reference. -/
def execConvCh5Ser (mode8 : Bool) (pd : PowerSave) (s : State) : Host.Outcome State Fault Refusal :=
  convert ⟨mode8, false, 5, pd⟩ s

/-- CONV_CH6_SER (42_control_byte.md R143): convert channel 6, single-ended reference. -/
def execConvCh6Ser (mode8 : Bool) (pd : PowerSave) (s : State) : Host.Outcome State Fault Refusal :=
  convert ⟨mode8, false, 6, pd⟩ s

/-- CONV_CH7_SER (42_control_byte.md R145): convert channel 7, single-ended reference. -/
def execConvCh7Ser (mode8 : Bool) (pd : PowerSave) (s : State) : Host.Outcome State Fault Refusal :=
  convert ⟨mode8, false, 7, pd⟩ s

end Sys2Proof.Machine
end

