-- ==== Sys2Proof/Machine/Dispatch.lean ====
section
/-! DEFINITION. The meaning of each command, one arm per constructor of `Instr` (42_control_byte.md R131 to R146). The
start bit is not read (30_encoding.md R73). -/

namespace Sys2Proof.Machine

def exec (i : Instr) (s : State) : Host.Outcome State Fault Refusal :=
  match i with
  | .convCh0Ser _ mode8 pd => Sys2Proof.Machine.execConvCh0Ser mode8 pd s
  | .convCh0Dfr _ mode8 pd => Sys2Proof.Machine.execConvCh0Dfr mode8 pd s
  | .convCh1Ser _ mode8 pd => Sys2Proof.Machine.execConvCh1Ser mode8 pd s
  | .convCh1Dfr _ mode8 pd => Sys2Proof.Machine.execConvCh1Dfr mode8 pd s
  | .convCh2Ser _ mode8 pd => Sys2Proof.Machine.execConvCh2Ser mode8 pd s
  | .convCh2Dfr _ mode8 pd => Sys2Proof.Machine.execConvCh2Dfr mode8 pd s
  | .convCh3Ser _ mode8 pd => Sys2Proof.Machine.execConvCh3Ser mode8 pd s
  | .convCh3Dfr _ mode8 pd => Sys2Proof.Machine.execConvCh3Dfr mode8 pd s
  | .convCh4Ser _ mode8 pd => Sys2Proof.Machine.execConvCh4Ser mode8 pd s
  | .convCh4Dfr _ mode8 pd => Sys2Proof.Machine.execConvCh4Dfr mode8 pd s
  | .convCh5Ser _ mode8 pd => Sys2Proof.Machine.execConvCh5Ser mode8 pd s
  | .convCh5Dfr _ mode8 pd => Sys2Proof.Machine.execConvCh5Dfr mode8 pd s
  | .convCh6Ser _ mode8 pd => Sys2Proof.Machine.execConvCh6Ser mode8 pd s
  | .convCh6Dfr _ mode8 pd => Sys2Proof.Machine.execConvCh6Dfr mode8 pd s
  | .convCh7Ser _ mode8 pd => Sys2Proof.Machine.execConvCh7Ser mode8 pd s
  | .convCh7Dfr _ mode8 pd => Sys2Proof.Machine.execConvCh7Dfr mode8 pd s

end Sys2Proof.Machine
end

