-- ==== Sys2Proof/Machine/BitEngine.lean ====
section
/-! DEFINITION. The bit protocol engine (41_bit_engine.md): one clock. This is where the block fetches a command: at the
conversion clock the accumulated control byte is decoded and its meaning runs. -/

namespace Sys2Proof.Machine

/-- Step 1: the countdown, which stays at 0 (41_bit_engine.md R110). -/
def tick (s : State) : State := { s with cd := if s.cd == 0 then 0 else s.cd - 1 }

/-- Step 2: a 1 at a clock where the countdown is 0 starts a control byte; a 0 does nothing (41_bit_engine.md R110). -/
def startBit (b : Bool) (s : State) : State :=
  if b then { s with ctrl := 0x01, cd := 15 } else s

/-- Step 3: shift one bit into the control byte (41_bit_engine.md R110). -/
def accumulate (b : Bool) (s : State) : State :=
  { s with ctrl := (s.ctrl <<< 1) ||| (BitVec.ofBool b).setWidth 8 }

/-- Step 4, the named transition of 41_bit_engine.md R116: the command in `ctrl` runs, and the same clock drives a bit
out. -/
def conversionClock (s : State) : Host.Outcome State Fault Refusal :=
  mapNext driveOut (exec (decode s.cfg.layout s.ctrl) s)

/-- The clock of a selected block, after step 1 (41_bit_engine.md R110, steps 2 to 5). -/
def selectedClock (b : Bool) (s : State) : Host.Outcome State Fault Refusal :=
  if s.cd == 0 then .next (driveOut (startBit b s))
  else if (8 : Countdown) ≤ s.cd then .next (driveOut (accumulate b s))
  else if s.cd == 6 then conversionClock s
  else .next (driveOut s)

/-- XCHG (41_bit_engine.md R110): one clock. A block that is not selected answers 1 and changes nothing. -/
def exchangeBit (b : Bool) (s : State) : Host.Outcome State Fault Refusal :=
  if s.csN then .next (recordDout true s) else selectedClock b (tick s)

end Sys2Proof.Machine
end

