-- ==== Sys2Proof/Machine/ChipSelect.lean ====
section
/-! DEFINITION. The chip-select controller and the hard reset (40_chip_select.md, 70_reset_and_hazards.md). -/

namespace Sys2Proof.Machine

/-- The chip-select reset (40_chip_select.md R101). -/
def chipSelectReset (s : State) : State := resetSequence s

/-- SETCS (40_chip_select.md R100): the assertion edge resets the engine; every other call only latches the level. -/
def setChipSelect (level : Bool) (s : State) : State :=
  if s.csN && !level then { chipSelectReset s with csN := level } else { s with csN := level }

/-- The source's call `setChipSelect(active)`, whose argument is the logical selection (40_chip_select.md R104). -/
def selectActive (active : Bool) (s : State) : State := setChipSelect (!active) s

/-- HARDRESET (70_reset_and_hazards.md R260): the reset sequence, whatever the line level is. -/
def hardReset (s : State) : State := resetSequence s

end Sys2Proof.Machine
end

