-- ==== Sys2Proof/Machine/StateImage.lean ====
section
/-! DEFINITION. The state-image port (44_state_image.md). -/

namespace Sys2Proof.Machine

/-- SIZE (44_state_image.md R200). -/
def imageSize : Nat := 6

/-- A one-bit field as a byte of the image (44_state_image.md R201). -/
def boolByte (b : Bool) : Byte := (BitVec.ofBool b).setWidth 8

/-- SAVE's image (44_state_image.md R201, R202). -/
def imageOf (s : State) : List Byte :=
  [boolByte s.penEn, s.cd.setWidth 8, s.ctrl, s.osr.extractLsb' 8 8, s.osr.extractLsb' 0 8, boolByte s.csN]

/-- LOAD (44_state_image.md R203, R204): the first six bytes overwrite the saved fields, then the level is published. No
chip-select reset runs. -/
def loadImage (img : List Byte) (s : State) : Host.Outcome State Fault Refusal :=
  match img with
  | b0 :: b1 :: b2 :: b3 :: b4 :: b5 :: _ =>
    if (1 : Byte) < b0 || (1 : Byte) < b5 || (15 : Byte) < b1 then .refused .invalidImage
    else
      .next (publish
        { s with penEn := b0.getLsbD 0, cd := b1.extractLsb' 0 4, ctrl := b2, osr := b3 ++ b4, csN := b5.getLsbD 0 })
  | _ => .refused .shortImage

end Sys2Proof.Machine
end

