-- ==== Sys2Proof/Machine/Interface.lean ====
section
/-! DEFINITION. The interface operations (30_encoding.md R80), each one atomic step (00_scope.md R11), and the answers
they record (R81). -/

namespace Sys2Proof.Machine

/-- REFRESH (60_exceptions.md R229). -/
def refreshPenIrq (s : State) : State := publish s

/-- GETIRQ (60_exceptions.md R228): the latch as it stands; nothing is recomputed. -/
def getPenIrq (s : State) : State :=
  { s with out := { s.out with irq := s.out.irq ++ [s.penIrq] } }

/-- SIZE (44_state_image.md R200). -/
def size (s : State) : State :=
  { s with out := { s.out with size := s.out.size ++ [imageSize] } }

/-- SAVE (44_state_image.md R202). -/
def save (s : State) : State :=
  { s with out := { s.out with image := s.out.image ++ [imageOf s] } }

/-- The host replaces the input snapshot (30_encoding.md R81). Nothing is published (60_exceptions.md R225). -/
def setInput (i : Snapshot) (s : State) : State := { s with inp := i }

/-- One interface operation (30_encoding.md R80). -/
def perform (op : BusOp) (s : State) : Host.Outcome State Fault Refusal :=
  match op with
  | .setChipSelect level => .next (setChipSelect level s)
  | .exchangeBit din => exchangeBit din s
  | .hardReset => .next (hardReset s)
  | .refreshPenIrq => .next (refreshPenIrq s)
  | .getPenIrq => .next (getPenIrq s)
  | .size => .next (size s)
  | .save => .next (save s)
  | .load image => loadImage image s
  | .input snapshot => .next (setInput snapshot s)

/-- A sequence of interface operations in call order (20_memory.md R59), up to the first stop. -/
def performAll : List BusOp → State → Host.Outcome State Fault Refusal
  | [], s => .next s
  | op :: ops, s => bindNext (performAll ops) (perform op s)

/-- The oldest pending operation of the script, with the script that remains; with nothing pending the bus is idle and
nothing changes. DESIGN CHOICE (log 8, 9). -/
def performPending (s : State) : Host.Outcome State Fault Refusal :=
  match s.script with
  | [] => .next s
  | op :: rest => perform op { s with script := rest }

/-- A selected block whose next clock is the conversion clock of the command `ctrl`, with that clock pending. -/
def atConversion (ctrl : Byte) (s : State) : State :=
  { s with csN := false, cd := 7, ctrl := ctrl, script := .exchangeBit false :: s.script }

end Sys2Proof.Machine
end

