-- ==== Sys2Proof/Machine/Script.lean ====
section
/-! DEFINITION. Transaction scripts (30_encoding.md R81 to R83): the statements are the terms of `BusOp`; here are the
two chip-select statements, the pseudo-statements' expansions, and a script's encoding on DIN. -/

namespace Sys2Proof.Machine

/-- The bits of a value, most significant first (20_memory.md R52). -/
def bitsMsbFirst {n : Nat} (v : BitVec n) : List Bool := (List.range n).map v.getMsbD

/-- The value of a list of bits, most significant first. -/
def ofBitsMsbFirst (bits : List Bool) : Nat := bits.foldl (fun acc b => 2 * acc + b.toNat) 0

/-- `SEL` (30_encoding.md R81). -/
def sel : BusOp := .setChipSelect false

/-- `DESEL` (30_encoding.md R81). -/
def desel : BusOp := .setChipSelect true

/-- Clocks that carry these bits on DIN, in order. -/
def clocks (bits : List Bool) : List BusOp := bits.map .exchangeBit

/-- `XB v` (30_encoding.md R82). -/
def xb (v : Byte) : List BusOp := clocks (bitsMsbFirst v)

/-- `XW v` (30_encoding.md R82). -/
def xw (v : BitVec 16) : List BusOp := clocks (bitsMsbFirst v)

/-- `XZ n` (30_encoding.md R82). -/
def xz (n : Nat) : List BusOp := clocks (List.replicate n false)

/-- `CMD v`, a synonym of `XB v` (30_encoding.md R82). -/
def cmd (v : Byte) : List BusOp := xb v

/-- `READ16` (30_encoding.md R82). -/
def read16 : List BusOp := xz 16

/-- `READ8` (30_encoding.md R82). -/
def read8 : List BusOp := xz 8

/-- The DIN bits of a script, in script order (30_encoding.md R83). -/
def dinBits (ops : List BusOp) : List Bool :=
  ops.filterMap fun
    | .exchangeBit b => some b
    | _ => none

/-- The `CS_N` levels a script drives, in script order (30_encoding.md R83). -/
def csLevels (ops : List BusOp) : List Bool :=
  ops.filterMap fun
    | .setChipSelect level => some level
    | _ => none

end Sys2Proof.Machine
end

