-- ==== Sys2Proof/Machine/Step.lean ====
section
/-! DEFINITION. One step of the machine: the oldest interface operation the host has pending. -/

namespace Sys2Proof.Machine

/-- One step (00_scope.md R11). -/
def step (s : State) : Host.Outcome State Fault Refusal := performPending s

/-- `s` with the table's command `w`, written in the configuration's layout, in `ctrl` of a selected block one clock before
its conversion, and that clock pending: the block fetches a command at the conversion clock only (41_bit_engine.md
R116). In the default layout the byte in `ctrl` is `w`. See log 6 and 8. -/
def State.withFetchWord (s : State) (nbits w : Nat) : State :=
  atConversion (encode s.cfg.layout (decode Layout.standard ((bytesOfWord nbits w).headD 0))) s

end Sys2Proof.Machine
end

