-- ==== Sys2Proof/Safety.lean ====
section
/-! DEFINITION. What counts as a safe run, in the terms the statements use: when an operation cannot stop, what a
conversion leaves, what the engine's registers look like between operations, and which states differ only in what an
operation does not read. -/

namespace Sys2Proof.Machine

/-- A state in which a conversion cannot be refused (60_exceptions.md R221): the configuration is well-formed
(70_reset_and_hazards.md R264) and the snapshot in range (10_state.md R32). -/
def State.ready (s : State) : Bool := configOk s.cfg && s.inp.inRange

/-- An image `load` accepts (44_state_image.md R204). -/
def imageOk (img : List Byte) : Bool :=
  match img with
  | b0 :: b1 :: _ :: _ :: _ :: b5 :: _ => decide (b0 ≤ 1) && decide (b5 ≤ 1) && decide (b1 ≤ 15)
  | _ => false

/-- An operation within its contract: the image loaded is well-formed, and the snapshot the host gives is in range. -/
def BusOp.allowed : BusOp → Bool
  | .load img => imageOk img
  | .input i => i.inRange
  | _ => true

/-- An operation that is no `load`, the one way a bare value enters the engine's registers. -/
def BusOp.notLoad : BusOp → Bool
  | .load _ => false
  | _ => true

/-- The state a conversion leaves, written out (43_channel_mapper.md R160, R172 to R176; 60_exceptions.md R224): the code
left-justified and in 8-bit mode truncated, the countdown shortened in 8-bit mode, the two status bits; nothing else
changes. -/
def converted (mode8 : Bool) (pd : PowerSave) (code : Code) (s : State) : State :=
  { s with
    osr := if mode8 then (code.setWidth 16 <<< 4) &&& 0xFF00 else code.setWidth 16 <<< 4
    cd := if mode8 then s.cd - 4 else s.cd
    penEn := !pd.getLsbD 0
    penIrq := !pd.getLsbD 0 && s.inp.touched && !s.cfg.touchChannels.contains (decodeFields s.cfg.layout s.ctrl).channel }

/-- The state a selected clock leaves, beside what it does to the countdown and the control byte (41_bit_engine.md R110,
step 5): the high bit of `osr` is answered and `osr` shifts left. -/
def clocked (cd : Countdown) (ctrl : Byte) (s : State) : State :=
  { s with cd := cd, ctrl := ctrl, osr := s.osr <<< 1, out := { s.out with dout := s.out.dout ++ [s.osr.getLsbD 15] } }

/-- The engine's registers after the reset sequence (40_chip_select.md R101): the publish sees `pen_en = 1` and channel
0 (log 17, and log 24 for a configuration with channel 0 among its touch channels). -/
def engineReset (s : State) : State :=
  { s with
    cd := 0, ctrl := 0x00, osr := 0x0000, penEn := true
    penIrq := s.inp.touched && !s.cfg.touchChannels.contains 0 }

/-- A countdown and a control byte as framing leaves them (41_bit_engine.md R110, 20_memory.md R52). While a control byte
accumulates, its start bit is the highest 1 and stands at bit 15 - cd. From the end of the byte on it stands at bit 7,
unless no byte was framed since the last reset. -/
def framedAt (cd : Countdown) (ctrl : Byte) : Bool :=
  if (8 : Countdown) ≤ cd then ctrl >>> (15 - cd.toNat) == 1 else ctrl.getLsbD 7 || (cd == 0 && ctrl == 0)

/-- The engine's registers as framing leaves them. -/
def State.framed (s : State) : Bool := framedAt s.cd s.ctrl

/-- The low four bits of `osr` are clear: codes are stored above them (43_channel_mapper.md R172) and zeros are shifted
in (10_state.md R24). -/
def State.lowBitsClear (s : State) : Bool := s.osr &&& 0x000F == 0

/-- The published level is asserted only under its enable: every operation that writes `pen_en` publishes after it
(60_exceptions.md R224, R225). -/
def State.levelEnabled (s : State) : Bool := !s.penIrq || s.penEn

/-- Two states that agree in everything but the input snapshot. -/
def sameButInput (s t : State) : Prop := { s with inp := t.inp } = t

/-- Two outcomes that are both next states and agree in everything but the input snapshot. -/
def sameOutcomeButInput : Host.Outcome State Fault Refusal → Host.Outcome State Fault Refusal → Prop
  | .next s, .next t => sameButInput s t
  | _, _ => False

/-- Two states that agree in the five elements the state image holds (44_state_image.md R201). -/
def sameSaved (s t : State) : Prop :=
  s.penEn = t.penEn ∧ s.cd = t.cd ∧ s.ctrl = t.ctrl ∧ s.osr = t.osr ∧ s.csN = t.csN

/-- Two states that agree in the six elements of the block (10_state.md R20). -/
def sameBlock (s t : State) : Prop := sameSaved s t ∧ s.penIrq = t.penIrq

end Sys2Proof.Machine
end

