-- ==== Sys2Proof/Certificates/Slice0/Obligations.lean ====
section
/-! DEFINITION. The statements for the provers, from the numbered rules of spec/. A full equation for the next state is
also its frame: every field it does not name is unchanged. Where a statement rests on a choice of the spec marked
[decision D<n>] or on an entry of the log, its docstring says so. -/

open Sys2Proof Sys2Proof.Machine

/-! ## Encoding -/

/-- R71, R75: under every layout that is a permutation, decoding the control byte of a command gives the command back,
every operand at every value. The layout is a parameter, by default the spec's choice D1 (log 6). -/
def Obligations.DecodeInvertsEncode : Prop :=
  ∀ (l : Layout) (i : Instr), l.isPermutation = true → decode l (encode l i) = i

/-- R73, R75: under every layout that is a permutation, every one of the 256 bytes is the control byte of the command it
decodes to, so no bit is dropped. The layout is a parameter, by default the spec's choice D1 (log 6). -/
def Obligations.EncodeInvertsDecode : Prop :=
  ∀ (l : Layout) (b : Byte), l.isPermutation = true → encode l (decode l b) = b

/-- R76 and the spec's decoder vectors: some control bytes in the default layout, written out, and the commands they stand
for. The default layout is the spec's choice D1 (log 6). -/
def Obligations.WrittenOutBytesDecodeToTheirCommands : Prop :=
  decode .standard 0b11010100 = .convCh5Ser true false 0 ∧ decode .standard 0b11011100 = .convCh5Ser true true 0 ∧
  decode .standard 0b10000000 = .convCh0Dfr true false 0 ∧ decode .standard 0b10110110 = .convCh3Ser true false 2 ∧
  decode .standard 0b10000110 = .convCh0Ser true false 2 ∧ decode .standard 0b11010010 = .convCh5Dfr true false 2 ∧
  decode .standard 0b01111011 = .convCh7Dfr false true 3 ∧ decode .standard 0b11111111 = .convCh7Ser true true 3

/-- R75, R130: in the default layout bits 6:4 and bit 2 select the row, and the command's fields are bits 3, 2 (inverted),
6:4 and 1:0 of the byte. The default layout is the spec's choice D1 (log 6). -/
def Obligations.RowAndFieldsComeFromTheByte : Prop :=
  ∀ b : Byte, b &&& 0x74 = (decode .standard b).matchBits ∧
    (decode .standard b).fields = ⟨b.getLsbD 3, !b.getLsbD 2, b.extractLsb' 4 3, b.extractLsb' 0 2⟩

/-! ## The sixteen commands -/

/-- R160: every one of the sixteen commands, in every ready state, completes: the conversion has a code, and the next
state is the one R160 describes, with nothing else changed. Ready (a well-formed configuration and a snapshot in range)
rules out the refusals of R221. The level in `converted` is the spec's choice D5 (log 17). -/
def Obligations.EveryReadyCommandCompletes : Prop :=
  ∀ (i : Instr) (s : State), s.ready = true →
    ∃ code, conversionCode i.fields s.cfg s.inp = .ok code ∧ exec i s = .next (converted i.mode8 i.pd code s)

/-- R131, R133, ..., R145: each single-ended command outside PD = 2 converts the value of its own table entry,
CHANNEL_TABLE(0, channel, touched). The level in `converted` is the spec's choice D5 (log 17). -/
def Obligations.SingleEndedRowsConvertTheirOwnEntry : Prop :=
  ∀ (st m : Bool) (pd : PowerSave) (k : Code) (s : State), configOk s.cfg = true → pd ≠ 2 →
    (entryCode s.cfg s.inp (channelTable s.cfg false 0 s.inp.touched) = .ok k →
      exec (.convCh0Ser st m pd) s = .next (converted m pd k s)) ∧
    (entryCode s.cfg s.inp (channelTable s.cfg false 1 s.inp.touched) = .ok k →
      exec (.convCh1Ser st m pd) s = .next (converted m pd k s)) ∧
    (entryCode s.cfg s.inp (channelTable s.cfg false 2 s.inp.touched) = .ok k →
      exec (.convCh2Ser st m pd) s = .next (converted m pd k s)) ∧
    (entryCode s.cfg s.inp (channelTable s.cfg false 3 s.inp.touched) = .ok k →
      exec (.convCh3Ser st m pd) s = .next (converted m pd k s)) ∧
    (entryCode s.cfg s.inp (channelTable s.cfg false 4 s.inp.touched) = .ok k →
      exec (.convCh4Ser st m pd) s = .next (converted m pd k s)) ∧
    (entryCode s.cfg s.inp (channelTable s.cfg false 5 s.inp.touched) = .ok k →
      exec (.convCh5Ser st m pd) s = .next (converted m pd k s)) ∧
    (entryCode s.cfg s.inp (channelTable s.cfg false 6 s.inp.touched) = .ok k →
      exec (.convCh6Ser st m pd) s = .next (converted m pd k s)) ∧
    (entryCode s.cfg s.inp (channelTable s.cfg false 7 s.inp.touched) = .ok k →
      exec (.convCh7Ser st m pd) s = .next (converted m pd k s))

/-- R132, R134, ..., R146: each differential command outside PD = 2 converts the value of its own table entry,
CHANNEL_TABLE(1, channel, touched). The level in `converted` is the spec's choice D5 (log 17). -/
def Obligations.DifferentialRowsConvertTheirOwnEntry : Prop :=
  ∀ (st m : Bool) (pd : PowerSave) (k : Code) (s : State), configOk s.cfg = true → pd ≠ 2 →
    (entryCode s.cfg s.inp (channelTable s.cfg true 0 s.inp.touched) = .ok k →
      exec (.convCh0Dfr st m pd) s = .next (converted m pd k s)) ∧
    (entryCode s.cfg s.inp (channelTable s.cfg true 1 s.inp.touched) = .ok k →
      exec (.convCh1Dfr st m pd) s = .next (converted m pd k s)) ∧
    (entryCode s.cfg s.inp (channelTable s.cfg true 2 s.inp.touched) = .ok k →
      exec (.convCh2Dfr st m pd) s = .next (converted m pd k s)) ∧
    (entryCode s.cfg s.inp (channelTable s.cfg true 3 s.inp.touched) = .ok k →
      exec (.convCh3Dfr st m pd) s = .next (converted m pd k s)) ∧
    (entryCode s.cfg s.inp (channelTable s.cfg true 4 s.inp.touched) = .ok k →
      exec (.convCh4Dfr st m pd) s = .next (converted m pd k s)) ∧
    (entryCode s.cfg s.inp (channelTable s.cfg true 5 s.inp.touched) = .ok k →
      exec (.convCh5Dfr st m pd) s = .next (converted m pd k s)) ∧
    (entryCode s.cfg s.inp (channelTable s.cfg true 6 s.inp.touched) = .ok k →
      exec (.convCh6Dfr st m pd) s = .next (converted m pd k s)) ∧
    (entryCode s.cfg s.inp (channelTable s.cfg true 7 s.inp.touched) = .ok k →
      exec (.convCh7Dfr st m pd) s = .next (converted m pd k s))

/-- R161: with PD = 2 every command completes with 0xFFF, but for channels 3 and 5 while nothing touches, which give
0x000. Neither the table nor a coordinate is read, and the reference flag and MODE do not matter to the code. The
level in `converted` is the spec's choice D5 (log 17). -/
def Obligations.PowerSaveTwoOverridesEveryRow : Prop :=
  ∀ (st m : Bool) (s : State), configOk s.cfg = true →
    exec (.convCh0Ser st m 2) s = .next (converted m 2 0xFFF s) ∧
    exec (.convCh0Dfr st m 2) s = .next (converted m 2 0xFFF s) ∧
    exec (.convCh1Ser st m 2) s = .next (converted m 2 0xFFF s) ∧
    exec (.convCh1Dfr st m 2) s = .next (converted m 2 0xFFF s) ∧
    exec (.convCh2Ser st m 2) s = .next (converted m 2 0xFFF s) ∧
    exec (.convCh2Dfr st m 2) s = .next (converted m 2 0xFFF s) ∧
    exec (.convCh3Ser st m 2) s = .next (converted m 2 (if s.inp.touched then 0xFFF else 0x000) s) ∧
    exec (.convCh3Dfr st m 2) s = .next (converted m 2 (if s.inp.touched then 0xFFF else 0x000) s) ∧
    exec (.convCh4Ser st m 2) s = .next (converted m 2 0xFFF s) ∧
    exec (.convCh4Dfr st m 2) s = .next (converted m 2 0xFFF s) ∧
    exec (.convCh5Ser st m 2) s = .next (converted m 2 (if s.inp.touched then 0xFFF else 0x000) s) ∧
    exec (.convCh5Dfr st m 2) s = .next (converted m 2 (if s.inp.touched then 0xFFF else 0x000) s) ∧
    exec (.convCh6Ser st m 2) s = .next (converted m 2 0xFFF s) ∧
    exec (.convCh6Dfr st m 2) s = .next (converted m 2 0xFFF s) ∧
    exec (.convCh7Ser st m 2) s = .next (converted m 2 0xFFF s) ∧
    exec (.convCh7Dfr st m 2) s = .next (converted m 2 0xFFF s)

/-- R147: the power-save field decides where the code comes from and what `pen_en` becomes, the same for every command:
PD = 2 takes the override and sets `pen_en`; PD = 0 takes the table and sets it; PD = 1 and 3 take the table, the very
same entry, and clear it. -/
def Obligations.PowerSaveFieldGovernsCodeAndEnable : Prop :=
  ∀ (i : Instr) (s : State), s.ready = true →
    ∃ t, exec i s = .next t ∧
      t.penEn = (i.pd == 0 || i.pd == 2) ∧
      (i.pd = 2 → t.osr = justify i.mode8 (pd2Code i.fields.channel s.inp.touched)) ∧
      (i.pd ≠ 2 → ∃ k,
        entryCode s.cfg s.inp (channelTable s.cfg i.fields.differential i.fields.channel s.inp.touched) = .ok k ∧
        t.osr = justify i.mode8 k)

/-- R168: in every well-formed configuration the entry of channel 5, single-ended, untouched is the constant 0x3FB, and
outside PD = 2 CONV_CH5_SER with nothing touching converts 0x3FB exactly, whatever the coordinates are: `osr` takes
0x3FB0, or 0x3F00 in 8-bit mode. -/
def Obligations.Channel5DormantFixture : Prop :=
  ∀ (st m : Bool) (pd : PowerSave) (s : State), configOk s.cfg = true →
    channelTable s.cfg false 5 false = .const 0x3FB ∧
    (pd ≠ 2 → s.inp.touched = false →
      ∃ t, exec (.convCh5Ser st m pd) s = .next t ∧ t.osr = if m then 0x3F00 else 0x3FB0)

/-- R167, R160: outside PD = 2 CONV_CH5_SER touched converts 0x0FD at x = 0, 0x822 at x = 1/2 and 0xF47 at x = 1, under
every INTERP. The endpoints rest on the spec's choice D16 (log 13); the source fixes the midpoint. The level in
`converted` is the spec's choice D5 (log 17). -/
def Obligations.Channel5LinearFixture : Prop :=
  ∀ (st m : Bool) (pd : PowerSave) (s : State), configOk s.cfg = true → pd ≠ 2 → s.inp.touched = true →
    (s.inp.x = 0 → exec (.convCh5Ser st m pd) s = .next (converted m pd 0x0FD s)) ∧
    (s.inp.x = 1 / 2 → exec (.convCh5Ser st m pd) s = .next (converted m pd 0x822 s)) ∧
    (s.inp.x = 1 → exec (.convCh5Ser st m pd) s = .next (converted m pd 0xF47 s))

/-- R169: in every well-formed configuration both entries of channel 0, differential are the constant 0xFFF, and
CONV_CH0_DFR converts 0xFFF exactly, for any input and any PD: `osr` takes 0xFFF0, or 0xFF00 in 8-bit mode. -/
def Obligations.Channel0DifferentialFixture : Prop :=
  ∀ (st m : Bool) (pd : PowerSave) (s : State), configOk s.cfg = true →
    channelTable s.cfg true 0 false = .const 0xFFF ∧ channelTable s.cfg true 0 true = .const 0xFFF ∧
    ∃ t, exec (.convCh0Dfr st m pd) s = .next t ∧ t.osr = if m then 0xFF00 else 0xFFF0

/-- R170, first point, and R160: outside PD = 2 a touch channel with nothing touching converts a constant, whatever the
coordinates are. Which channels are touch channels is the parameter of the spec's choice D6 (log 5), and the level in
`converted` is its choice D5 (log 17). -/
def Obligations.DormantTouchChannelsConvertAConstant : Prop :=
  ∀ (i : Instr) (s : State), configOk s.cfg = true → i.pd ≠ 2 → s.inp.touched = false →
    i.fields.channel ∈ s.cfg.touchChannels →
    ∃ k, channelTable s.cfg i.fields.differential i.fields.channel false = .const k ∧
      exec i s = .next (converted i.mode8 i.pd k s)

/-- R170, second point, R166 and R160: outside PD = 2 any other channel converts a constant or the code of the port
identity, whatever the coordinates are. The port codes are the OPEN parameter of D15 (log 3), and the level in
`converted` is the spec's choice D5 (log 17). -/
def Obligations.OtherChannelsConvertAConstantOrThePort : Prop :=
  ∀ (i : Instr) (s : State), configOk s.cfg = true → i.pd ≠ 2 → i.fields.channel ∉ s.cfg.touchChannels →
    ∃ k,
      (channelTable s.cfg i.fields.differential i.fields.channel s.inp.touched = .const k ∨
        (channelTable s.cfg i.fields.differential i.fields.channel s.inp.touched = .port ∧
          k = match s.inp.port with
            | .none => s.cfg.portCodes.none
            | .usbCradle => s.cfg.portCodes.usbCradle
            | .serialCradle => s.cfg.portCodes.serialCradle
            | .usbPeripheral => s.cfg.portCodes.usbPeripheral
            | .serialPeripheral => s.cfg.portCodes.serialPeripheral)) ∧
      exec i s = .next (converted i.mode8 i.pd k s)

/-- R164, R165, R171, R160: outside PD = 2 a linear entry with its coordinate in [0, 1] converts INTERP of the exact
rational value, which a well-formed configuration keeps within 0 to 0xFFF, so that nothing is truncated. Exact
evaluation and INTERP are the spec's choice D13 (log 4), and the level in `converted` is its choice D5 (log 17). -/
def Obligations.LinearEntriesInterpolateInRange : Prop :=
  ∀ (i : Instr) (s : State) (a : Axis) (srcMin srcMax : Rat) (dstMin dstMax : Code),
    configOk s.cfg = true → i.pd ≠ 2 →
    channelTable s.cfg i.fields.differential i.fields.channel s.inp.touched = .linear a srcMin srcMax dstMin dstMax →
    0 ≤ coordinate s.inp a → coordinate s.inp a ≤ 1 →
    ∃ n : Nat, n ≤ 0xFFF ∧
      (n : Int) = interpolate s.cfg.interp
        ((coordinate s.inp a - srcMin) / (srcMax - srcMin) * ((dstMax.toNat : Rat) - (dstMin.toNat : Rat))
          + (dstMin.toNat : Rat)) ∧
      exec i s = .next (converted i.mode8 i.pd (BitVec.ofNat 12 n) s)

/-- R165: for a value that is not negative the default INTERP is the floor, and every INTERP of the model answers the
floor or the ceiling of its argument. The default is the spec's choice D13 (log 4). -/
def Obligations.InterpAnswersFloorOrCeiling : Prop :=
  (∀ v : Rat, 0 ≤ v → interpolate .truncate v = v.floor) ∧
  ∀ (m : Interp) (v : Rat), interpolate m v = v.floor ∨ interpolate m v = v.ceil

/-- R221, R32, R171: a command stops exactly under an ill-formed configuration, or where a linear entry reads a
coordinate outside [0, 1]. Both refusals are the spec's choices D14 and D21 (log 12, 19). R221 names CHANNEL_TABLE,
PORT_CODE and INTERP only: that a set of touch channels which is not four different channels (log 5), or a layout which
is no permutation (log 6), is ill-formed too is the model's reading, DEDUCED. -/
def Obligations.CommandsStopExactlyWhereTheSpecRefuses : Prop :=
  ∀ (i : Instr) (s : State) (r : Refusal), exec i s = .refused r ↔
    (configOk s.cfg = false ∧ r = .illFormedConfig) ∨
    (configOk s.cfg = true ∧ r = .inputOutOfRange ∧ i.pd ≠ 2 ∧
      ∃ a srcMin srcMax dstMin dstMax,
        channelTable s.cfg i.fields.differential i.fields.channel s.inp.touched
          = .linear a srcMin srcMax dstMin dstMax ∧
        ¬ (0 ≤ coordinate s.inp a ∧ coordinate s.inp a ≤ 1))

/-- R148: what MODE does, at the conversion clock (countdown 6): MODE = 0 stores the whole code and leaves the
countdown at 6; MODE = 1 stores the code with the low 8 bits cleared and leaves it at 2. -/
def Obligations.ModeBitSelectsTheResponse : Prop :=
  ∀ (i : Instr) (s : State), s.ready = true → s.cd = 6 →
    ∃ code t, conversionCode i.fields s.cfg s.inp = .ok code ∧ exec i s = .next t ∧
      (i.mode8 = false → t.osr = code.setWidth 16 <<< 4 ∧ t.cd = 6) ∧
      (i.mode8 = true → t.osr = (code.setWidth 16 <<< 4) &&& 0xFF00 ∧ t.cd = 2)

/-- R177: an 8-bit command against its 12-bit twin: it completes where the twin does, `osr` has the low 8 bits cleared,
the countdown is 4 lower, and everything else agrees. -/
def Obligations.EightBitModeTruncatesItsTwin : Prop :=
  ∀ (i j : Instr) (s t : State), i.fields = { j.fields with mode8 := true } → j.mode8 = false → exec j s = .next t →
    exec i s = .next { t with osr := t.osr &&& 0xFF00, cd := t.cd - 4 }

/-- R73: under every layout the start bit is not read: a byte and the same byte with bit 7 set have the same fields and
the same effect. -/
def Obligations.StartBitIsNotRead : Prop :=
  ∀ (l : Layout) (b : Byte) (s : State),
    (decode l b).fields = (decode l (b ||| 0x80)).fields ∧ exec (decode l b) s = exec (decode l (b ||| 0x80)) s

/-- R224, R176, R270: with the default touch channels, a command that stands in `ctrl` publishes a level that is 0 for
channels 1, 3, 4 and 5 and `pen_en` AND touched for the others. The formula and the channels are the spec's choices D5
and D6 (log 5, 17). -/
def Obligations.TouchRowsSuppressTheLevel : Prop :=
  ∀ (i : Instr) (s : State), s.ready = true → s.cfg.touchChannels = [1, 3, 4, 5] → s.ctrl = encode s.cfg.layout i →
    ∃ t, exec i s = .next t ∧
      (i.fields.channel ∈ [(1 : Channel), 3, 4, 5] → t.penIrq = false) ∧
      (i.fields.channel ∉ [(1 : Channel), 3, 4, 5] → t.penIrq = (!i.pd.getLsbD 0 && s.inp.touched))

/-! ## The step and the bit engine -/

/-- A step runs the decoded command: at a selected clock with the countdown at 7, whatever DIN is, the step is `exec`
of the command that `ctrl` is under the configuration's layout, with the countdown at 6 and the rest of the script
pending, followed by the same clock's output (R110, R116). The script is the model's choice (log 8). -/
def Obligations.StepRunsTheDecodedCommand : Prop :=
  ∀ (i : Instr) (s : State) (b : Bool) (rest : List BusOp),
    s.script = .exchangeBit b :: rest → s.csN = false → s.cd = 7 → decode s.cfg.layout s.ctrl = i →
    step s = match exec i { s with script := rest, cd := 6 } with
      | .next t => .next (clocked t.cd t.ctrl t)
      | .fault r => .fault r
      | .refused r => .refused r

/-- The conversion clock of a ready state completes: the step stores the command's code, sets `pen_en`, publishes the
level, answers the code's high bit and shifts (R110, R160, R224). The fields are read under the configuration's layout, by
default the spec's choice D1 (log 6); the level's formula is its choice D5 (log 17); the script is the model's (log 8). -/
def Obligations.ReadyConversionClockCompletes : Prop :=
  ∀ (s : State) (b : Bool) (rest : List BusOp) (f : Fields),
    s.script = .exchangeBit b :: rest → s.csN = false → s.cd = 7 → s.ready = true →
    f = decodeFields s.cfg.layout s.ctrl →
    ∃ code t, conversionCode f s.cfg s.inp = .ok code ∧ step s = .next t ∧
      t.out = { s.out with dout := s.out.dout ++ [code.getLsbD 11] } ∧
      t.osr = (if f.mode8 then (code.setWidth 16 <<< 4) &&& 0xFF00 else code.setWidth 16 <<< 4) <<< 1 ∧
      t.cd = (if f.mode8 then 2 else 6) ∧ t.penEn = !f.powerSave.getLsbD 0 ∧
      t.penIrq = (!f.powerSave.getLsbD 0 && s.inp.touched && !s.cfg.touchChannels.contains f.channel) ∧
      t.csN = false ∧ t.ctrl = s.ctrl ∧ t.inp = s.inp ∧ t.cfg = s.cfg ∧ t.script = rest

/-- A row's word placed for the next step is the command that step runs, in every layout that is a permutation; in the
default layout the byte placed is the word. The placing is the model's choice (log 6, 8). -/
def Obligations.FetchWordRunsItsCommand : Prop :=
  ∀ (i : Instr) (s : State) (w : Nat), s.cfg.layout.isPermutation = true → decodeTableWord 8 w = some i →
    (step (s.withFetchWord 8 w) =
      match exec i { s with csN := false, cd := 6, ctrl := encode s.cfg.layout i } with
      | .next t => .next (clocked t.cd t.ctrl t)
      | .fault r => .fault r
      | .refused r => .refused r) ∧
    (s.cfg.layout = .standard → encode s.cfg.layout i = BitVec.ofNat 8 w)

/-- R110: one clock, by the countdown before it. A deselected clock answers 1 and changes no element; a selected one
answers `osr[15]` and shifts, after the start-bit test, the accumulation, the conversion or nothing. -/
def Obligations.ClockFollowsTheEngineSteps : Prop :=
  ∀ (s : State) (b : Bool),
    (s.csN = true →
      exchangeBit b s = .next { s with out := { s.out with dout := s.out.dout ++ [true] } }) ∧
    (s.csN = false → s.cd = 0 ∨ s.cd = 1 →
      exchangeBit b s = .next (if b then clocked 15 0x01 s else clocked 0 s.ctrl s)) ∧
    (s.csN = false → 9 ≤ s.cd.toNat →
      exchangeBit b s = .next (clocked (s.cd - 1) ((s.ctrl <<< 1) ||| (if b then 0x01 else 0x00)) s)) ∧
    (s.csN = false → s.cd = 7 →
      exchangeBit b s = match exec (decode s.cfg.layout s.ctrl) { s with cd := 6 } with
        | .next t => .next (clocked t.cd t.ctrl t)
        | .fault r => .fault r
        | .refused r => .refused r) ∧
    (s.csN = false → s.cd = 8 ∨ (2 ≤ s.cd.toNat ∧ s.cd.toNat ≤ 6) →
      exchangeBit b s = .next (clocked (s.cd - 1) s.ctrl s))

/-- R114: while deselected, any sequence of clocks answers 1 each time and changes no element. -/
def Obligations.IdleLineAnswersOnesAndChangesNothing : Prop :=
  ∀ (bits : List Bool) (s : State), s.csN = true →
    performAll (clocks bits) s
      = .next { s with out := { s.out with dout := s.out.dout ++ List.replicate bits.length true } }

/-- R112: at a selected clock where the countdown is 0 after its decrement, a 1 sets the countdown to 15 and `ctrl` to
0x01, whatever `osr` holds. -/
def Obligations.StartBitReArmsTheEngine : Prop :=
  ∀ s : State, s.csN = false → s.cd = 0 ∨ s.cd = 1 → exchangeBit true s = .next (clocked 15 0x01 s)

/-- R116: the conversion happens exactly at the clock where the countdown becomes 6: there the clock is the command in
`ctrl` followed by the output; at every other selected clock the enable and the level hold and `osr` only shifts. -/
def Obligations.ConversionExactlyAtCountdownSix : Prop :=
  ∀ (s : State) (b : Bool), s.csN = false →
    (s.cd = 7 → exchangeBit b s = conversionClock { s with cd := 6 }) ∧
    (s.cd ≠ 7 → ∃ t, exchangeBit b s = .next t ∧ t.osr = s.osr <<< 1 ∧ t.penEn = s.penEn ∧ t.penIrq = s.penIrq)

/-- R115: a DIN bit at a clock where the countdown is 1 to 7 after its decrement is stored nowhere: both values give the
same outcome, and a 1 starts nothing. -/
def Obligations.IgnoredBitsAreStoredNowhere : Prop :=
  ∀ s : State, s.csN = false → 2 ≤ s.cd.toNat → s.cd.toNat ≤ 8 →
    exchangeBit true s = exchangeBit false s ∧ ∀ t, exchangeBit true s = .next t → t.ctrl = s.ctrl ∧ t.cd ≠ 15

/-- R52, R70: a framed byte clocked in MSB first at a start-bit clock leaves itself in `ctrl` and the countdown at 8;
its eight clocks answer the residue of `osr`, and nothing else changes. -/
def Obligations.FramedByteAccumulatesMsbFirst : Prop :=
  ∀ (s : State) (v : Byte), s.csN = false → s.cd = 0 ∨ s.cd = 1 → v.getLsbD 7 = true →
    performAll (cmd v) s
      = .next { s with
          cd := 8, ctrl := v, osr := s.osr <<< 8
          out := { s.out with dout := s.out.dout ++ (bitsMsbFirst s.osr).take 8 } }

/-- R111, R174, R71: within a frame the countdown is a function of the clock number alone: after the n-th clock that
follows the control byte it is 8 - n in a 12-bit frame (n at most 7), and 8, 7, 2, 1 in an 8-bit frame (n at most 3).
MODE is read under the configuration's layout, by default the spec's choice D1 (log 6). -/
def Obligations.CountdownIsAFunctionOfTheClock : Prop :=
  ∀ (s : State) (v : Byte) (din : List Bool), s.ready = true → s.csN = false → s.cd = 0 ∨ s.cd = 1 →
    v.getLsbD 7 = true →
    ((decodeFields s.cfg.layout v).mode8 = false → din.length ≤ 7 →
      ∃ t, performAll (cmd v ++ clocks din) s = .next t ∧ t.cd.toNat = 8 - din.length) ∧
    ((decodeFields s.cfg.layout v).mode8 = true → din.length ≤ 3 →
      ∃ t, performAll (cmd v ++ clocks din) s = .next t ∧
        t.cd.toNat = if din.length ≤ 1 then 8 - din.length else 4 - din.length)

/-- R77, R72: the whole 12-bit frame from any ready selected state at a start-bit clock: 9 clocks of residue, the 12
bits of the code MSB first, then zeros; DIN at clocks t0+8 to t0+14 does not matter. The clock counts rest on the
engine's rule R110. The fields are read under the configuration's layout, by default the spec's choice D1 (log 6). -/
def Obligations.TwelveBitFrameAnswersTheCode : Prop :=
  ∀ (s : State) (v : Byte) (din : List Bool), s.ready = true → s.csN = false → s.cd = 0 ∨ s.cd = 1 →
    v.getLsbD 7 = true → (decodeFields s.cfg.layout v).mode8 = false → din.length = 7 →
    ∃ code t, conversionCode (decodeFields s.cfg.layout v) s.cfg s.inp = .ok code ∧
      performAll (cmd v ++ clocks din ++ xz 9) s = .next t ∧
      t.out.dout = s.out.dout ++ (bitsMsbFirst s.osr).take 9 ++ bitsMsbFirst code ++ [false, false, false] ∧
      t.cd = 0 ∧ t.ctrl = v ∧ t.osr = 0 ∧ t.csN = false ∧ t.penEn = !(decodeFields s.cfg.layout v).powerSave.getLsbD 0 ∧
      t.inp = s.inp ∧ t.cfg = s.cfg ∧ t.script = s.script

/-- R78, R173, R174: the whole 8-bit frame: 9 clocks of residue, the 8 high bits of the code MSB first, then zeros; DIN
at clocks t0+8 to t0+10 does not matter. The fields are read under the configuration's layout, by default the spec's
choice D1 (log 6). -/
def Obligations.EightBitFrameAnswersTheHighBits : Prop :=
  ∀ (s : State) (v : Byte) (din : List Bool), s.ready = true → s.csN = false → s.cd = 0 ∨ s.cd = 1 →
    v.getLsbD 7 = true → (decodeFields s.cfg.layout v).mode8 = true → din.length = 3 →
    ∃ code t, conversionCode (decodeFields s.cfg.layout v) s.cfg s.inp = .ok code ∧
      performAll (cmd v ++ clocks din ++ xz 13) s = .next t ∧
      t.out.dout = s.out.dout ++ (bitsMsbFirst s.osr).take 9 ++ (bitsMsbFirst code).take 8
        ++ List.replicate 7 false ∧
      t.cd = 0 ∧ t.ctrl = v ∧ t.osr = 0 ∧ t.csN = false ∧ t.penEn = !(decodeFields s.cfg.layout v).powerSave.getLsbD 0 ∧
      t.inp = s.inp ∧ t.cfg = s.cfg ∧ t.script = s.script

/-- R113: a second 12-bit command whose start bit comes 15 clocks after the first one's reads both responses whole: 9
clocks of residue, the first code, 3 zeros, the second code, 3 zeros. The fields are read under the configuration's
layout, by default the spec's choice D1 (log 6). -/
def Obligations.OverlappedFramesAnswerBothCodes : Prop :=
  ∀ (s : State) (v w : Byte) (din din' : List Bool), s.ready = true → s.csN = false → s.cd = 0 ∨ s.cd = 1 →
    v.getLsbD 7 = true → (decodeFields s.cfg.layout v).mode8 = false → w.getLsbD 7 = true → (decodeFields s.cfg.layout w).mode8 = false →
    din.length = 7 → din'.length = 7 →
    ∃ code code' t, conversionCode (decodeFields s.cfg.layout v) s.cfg s.inp = .ok code ∧
      conversionCode (decodeFields s.cfg.layout w) s.cfg s.inp = .ok code' ∧
      performAll (cmd v ++ clocks din ++ (cmd w ++ clocks din' ++ xz 9)) s = .next t ∧
      t.out.dout = s.out.dout ++ (bitsMsbFirst s.osr).take 9 ++ bitsMsbFirst code ++ [false, false, false]
        ++ bitsMsbFirst code' ++ [false, false, false]

/-! ## Chip select, reset and the pen interrupt -/

/-- R101: the assertion edge runs the reset sequence, then latches the line: the publish comes last and sees `pen_en =
1` and channel 0. The edge and the level's formula are the spec's choices D2 and D5 (log 15, 17); where channel 0 is a
touch channel the formula is taken over R105's `in.touched` (log 24). -/
def Obligations.AssertionEdgeRunsTheResetSequence : Prop :=
  ∀ s : State, s.csN = true → perform (.setChipSelect false) s = .next { engineReset s with csN := false }

/-- R103: driving the level the line already has changes nothing at all. -/
def Obligations.SameLevelChangesNothing : Prop :=
  ∀ s : State, perform (.setChipSelect s.csN) s = .next s

/-- R102: deasserting the line writes the line only; nothing is published. The reading of the source is the spec's choice
D24 (log 15). -/
def Obligations.DeassertionOnlyLatchesTheLine : Prop :=
  ∀ s : State, perform (.setChipSelect true) s = .next { s with csN := true }

/-- R268, R101, R105: from any state, deselecting and selecting again abandons the frame and leaves the reset engine.
The reset edge and the level's formula are the spec's choices D2 and D5 (log 15, 17, and log 24 where channel 0 is a
touch channel). -/
def Obligations.ReselectAbandonsTheFrame : Prop :=
  ∀ s : State, performAll [desel, sel] s = .next { engineReset s with csN := false }

/-- R260: the hard reset is the reset sequence and leaves the line as it is. That the line is not written and the
level's formula are the spec's choices D4 and D5 (log 16, 17, and log 24 where channel 0 is a touch channel). -/
def Obligations.HardResetKeepsTheLine : Prop :=
  ∀ s : State, perform .hardReset s = .next (engineReset s)

/-- R261, R26: the power-on state. Its level is what R224 computes from `pen_en = 1` and channel 0: `in.touched` wherever
channel 0 is no touch channel, and 0 where it is (the model's choice, log 24). The line level and the formula are the
spec's choices D4 and D5 (log 16, 17); the snapshot and the configuration of `State.reset` are the model's (log 1, 7), so
the elements are stated under every one of them too. -/
def Obligations.PowerOnLeavesTheResetValues : Prop :=
  (∀ (cfg : Config) (inp : Snapshot),
    (State.powerOn cfg inp).csN = true ∧ (State.powerOn cfg inp).cd = 0 ∧ (State.powerOn cfg inp).ctrl = 0x00 ∧
    (State.powerOn cfg inp).osr = 0x0000 ∧ (State.powerOn cfg inp).penEn = true ∧
    (0 ∉ cfg.touchChannels → (State.powerOn cfg inp).penIrq = inp.touched) ∧
    (0 ∈ cfg.touchChannels → (State.powerOn cfg inp).penIrq = false)) ∧
  State.reset = State.powerOn Config.atReset inputAtReset

/-- R229, R224: a refresh recomputes the level and changes nothing else. The operation and the formula are the spec's
choices D5 and D8 (log 17). -/
def Obligations.RefreshRecomputesTheLevelOnly : Prop :=
  ∀ s : State, perform .refreshPenIrq s = .next
    { s with
      penIrq := s.penEn && s.inp.touched &&
        !s.cfg.touchChannels.contains (decodeFields s.cfg.layout s.ctrl).channel }

/-- R225: a step changes the level only at a publish event: an assertion edge, a conversion clock, a hard reset, a load
or a refresh. That the level is a latch and that the reset runs on the assertion edge are the spec's choices D7 and D2
(log 15, 17). -/
def Obligations.LevelChangesOnlyAtPublishEvents : Prop :=
  ∀ s t : State, step s = .next t → t.penIrq ≠ s.penIrq →
    ∃ op rest, s.script = op :: rest ∧
      ((op = .setChipSelect false ∧ s.csN = true) ∨ (∃ b, op = .exchangeBit b ∧ s.csN = false ∧ s.cd = 7) ∨
        op = .hardReset ∨ (∃ img, op = .load img) ∨ op = .refreshPenIrq)

/-- R38, the column of writers: each of the five saved elements changes only by the operations the table lists for it;
`ctrl` by a clock only where a start bit or an accumulation stands, `pen_en` only at a conversion clock (R110). That
the chip-select reset runs on the assertion edge (R100) and that a hard reset leaves the line (R260) are the spec's
choices D2 and D4 (log 15, 16). -/
def Obligations.ElementsChangeOnlyByTheirWriters : Prop :=
  ∀ (op : BusOp) (s t : State), perform op s = .next t → (∀ img, op ≠ .load img) →
    (t.csN ≠ s.csN → ∃ l, op = .setChipSelect l) ∧
    (t.cd ≠ s.cd ∨ t.osr ≠ s.osr →
      (∃ b, op = .exchangeBit b ∧ s.csN = false) ∨ (op = .setChipSelect false ∧ s.csN = true) ∨ op = .hardReset) ∧
    (t.ctrl ≠ s.ctrl →
      (∃ b, op = .exchangeBit b ∧ s.csN = false ∧ (s.cd.toNat ≤ 1 ∧ b = true ∨ 9 ≤ s.cd.toNat)) ∨
        (op = .setChipSelect false ∧ s.csN = true) ∨ op = .hardReset) ∧
    (t.penEn ≠ s.penEn →
      (∃ b, op = .exchangeBit b ∧ s.csN = false ∧ s.cd = 7) ∨ (op = .setChipSelect false ∧ s.csN = true) ∨
        op = .hardReset)

/-- R228: `getPenIrq` answers the latch as it stands, recomputes nothing and changes no element. -/
def Obligations.GetPenIrqAnswersTheLatch : Prop :=
  ∀ s : State, perform .getPenIrq s = .next { s with out := { s.out with irq := s.out.irq ++ [s.penIrq] } }

/-! ## The state image -/

/-- R200: `size` answers 6 in every state, which is the length of every saved image, and changes no element. -/
def Obligations.SizeIsSixInEveryState : Prop :=
  ∀ s : State, perform .size s = .next { s with out := { s.out with size := s.out.size ++ [6] } } ∧
    (imageOf s).length = 6

/-- R202, R201: the six bytes of a saved image; saving changes no element. The byte order and the booleans' bytes are the
spec's choices D10 and D11 (log 18). -/
def Obligations.SaveWritesTheFields : Prop :=
  ∀ s : State, perform .save s = .next { s with out := { s.out with image := s.out.image ++
    [[if s.penEn then 0x01 else 0x00, BitVec.ofNat 8 s.cd.toNat, s.ctrl, BitVec.ofNat 8 (s.osr.toNat / 256),
      BitVec.ofNat 8 s.osr.toNat, if s.csN then 0x01 else 0x00]] } }

/-- R203, R205: an accepted load writes the five fields from the first six bytes, publishes, and changes nothing else; no
chip-select reset runs. The layout and the publish are the spec's choices D3, D9, D10, D11 (log 17, 18). -/
def Obligations.LoadWritesTheFields : Prop :=
  ∀ (b0 b1 b2 b3 b4 b5 : Byte) (rest : List Byte) (s : State), b0.toNat ≤ 1 → b1.toNat ≤ 15 → b5.toNat ≤ 1 →
    perform (.load (b0 :: b1 :: b2 :: b3 :: b4 :: b5 :: rest)) s = .next
      { s with
        penEn := b0 == 1, cd := BitVec.ofNat 4 b1.toNat, ctrl := b2
        osr := BitVec.ofNat 16 (256 * b3.toNat + b4.toNat), csN := b5 == 1
        penIrq := b0 == 1 && s.inp.touched &&
          !s.cfg.touchChannels.contains (decodeFields s.cfg.layout b2).channel }

/-- R204: which loads are refused, and how: a short buffer, and else a boolean byte above 1 or a countdown byte above 15.
The second refusal is the spec's choice D11, D12 (log 18). -/
def Obligations.LoadRefusesExactlyBadImages : Prop :=
  ∀ (img : List Byte) (s : State),
    (perform (.load img) s = .refused .shortImage ↔ img.length < 6) ∧
    (perform (.load img) s = .refused .invalidImage ↔
      6 ≤ img.length ∧ (1 < (img.getD 0 0).toNat ∨ 15 < (img.getD 1 0).toNat ∨ 1 < (img.getD 5 0).toNat))

/-- R206: loading the image of any state, into any state, restores the five saved fields and recomputes the level from
them and the current inputs; it is never refused. The level's clause rests on the spec's choice D9 (log 17). -/
def Obligations.SavedImageRestoresTheState : Prop :=
  ∀ s t : State, perform (.load (imageOf s)) t = .next
    { t with
      penEn := s.penEn, cd := s.cd, ctrl := s.ctrl, osr := s.osr, csN := s.csN
      penIrq := s.penEn && t.inp.touched &&
        !t.cfg.touchChannels.contains (decodeFields t.cfg.layout s.ctrl).channel }

/-- R206, R60: two states that agree in the saved fields, in the inputs and in the configuration go through any operations
alike, with the same DOUT bits, images and sizes, and agree in the saved fields after. (Loading a saved image gives such a
state.) If they agree in the level too, they agree in it after, and the IRQ answers are the same as well. -/
def Obligations.SavedFieldsDetermineTheFuture : Prop :=
  ∀ (ops : List BusOp) (s u s' : State), sameSaved s u → s.inp = u.inp → s.cfg = u.cfg →
    performAll ops s = .next s' →
    ∃ u', performAll ops u = .next u' ∧ sameSaved s' u' ∧ s'.inp = u'.inp ∧ s'.cfg = u'.cfg ∧
      (∃ bits images sizes,
        s'.out.dout = s.out.dout ++ bits ∧ u'.out.dout = u.out.dout ++ bits ∧
        s'.out.image = s.out.image ++ images ∧ u'.out.image = u.out.image ++ images ∧
        s'.out.size = s.out.size ++ sizes ∧ u'.out.size = u.out.size ++ sizes) ∧
      (sameBlock s u → sameBlock s' u' ∧
        ∃ levels, s'.out.irq = s.out.irq ++ levels ∧ u'.out.irq = u.out.irq ++ levels)

/-! ## Whole-machine properties -/

/-- An invariant of every step: the level is asserted only under its enable, because every operation that writes `pen_en`
publishes after it (R224, R225, R226). The formula is the spec's choice D5 (log 17). -/
def Obligations.EveryStepKeepsTheLevelUnderItsEnable : Prop :=
  ∀ s t : State, s.levelEnabled = true → step s = .next t → t.levelEnabled = true

/-- An invariant of every step that is no `load`: the start bit of an accumulating control byte is its highest 1, at bit
15 - cd, and stands at bit 7 of a complete one (R52, R71, R73); and the low four bits of `osr` are clear (R172, R24). -/
def Obligations.EveryStepButLoadKeepsTheFraming : Prop :=
  ∀ s t : State, s.framed = true → s.lowBitsClear = true → (∀ img rest, s.script ≠ .load img :: rest) →
    step s = .next t → t.framed = true ∧ t.lowBitsClear = true

/-- The reset state, and every power-on state, meets the invariants (R261; at power-on the enable is 1). That
State.reset is ready is a fact about the model's own choices, not the spec's: its configuration (log 1), in which the
open entries are taken as constants (log 2) and the port lookup and the touch channels stand at their defaults (log 3,
5, 6), and its snapshot (log 7). The level's formula is the spec's choice D5 (log 17, 24). -/
def Obligations.PowerOnMeetsTheInvariants : Prop :=
  (State.reset.levelEnabled = true ∧ State.reset.framed = true ∧ State.reset.lowBitsClear = true ∧
    State.reset.ready = true) ∧
  ∀ (cfg : Config) (inp : Snapshot), (State.powerOn cfg inp).levelEnabled = true ∧
    (State.powerOn cfg inp).framed = true ∧ (State.powerOn cfg inp).lowBitsClear = true

/-- R221, R264, R117: from a ready state, any sequence of operations within their contract completes, never stops, and
ends ready under the same configuration. What is refused is the spec's choice D11, D12, D14, D21 (log 12, 18, 19), and
the model's reading of a well-formed set of touch channels and layout (log 5, 6). -/
def Obligations.ReadyRunsNeverStop : Prop :=
  ∀ (ops : List BusOp) (s : State), s.ready = true → (∀ op ∈ ops, op.allowed = true) →
    ∃ t, performAll ops s = .next t ∧ t.ready = true ∧ t.cfg = s.cfg

/-- R59: the steps of the machine over a script are the operations in call order, the rest of the script untouched. The
script is the model's choice (log 8). -/
def Obligations.StepsRunTheScriptInOrder : Prop :=
  ∀ (ops rest : List BusOp) (s : State),
    Host.Core.run Sys2Proof.core ops.length { s with script := ops ++ rest } = performAll ops { s with script := rest }

/-- With nothing pending a step changes nothing: the model's choice (log 9); R273 leaves to the host whether it clocks. -/
def Obligations.IdleBusChangesNothing : Prop :=
  ∀ s : State, s.script = [] → step s = .next s

/-- R65, R269: a clock reads the inputs only at the conversion: at any other clock two states that differ in the snapshot
only go on alike. -/
def Obligations.InputsAreReadOnlyAtTheConversion : Prop :=
  ∀ (s u : State) (b : Bool), sameButInput s u → ¬ (s.csN = false ∧ s.cd = 7) →
    sameOutcomeButInput (exchangeBit b s) (exchangeBit b u)

/-- R31, R34: no operation of the block writes the inputs, the configuration or what the host has pending; the host's own
move replaces the snapshot and nothing else. -/
def Obligations.InputsAreNeverWrittenByTheBlock : Prop :=
  (∀ (i : Snapshot) (s : State), perform (.input i) s = .next { s with inp := i }) ∧
  ∀ (op : BusOp) (s t : State), (∀ i, op ≠ .input i) → perform op s = .next t →
    t.inp = s.inp ∧ t.cfg = s.cfg ∧ t.script = s.script
end

