-- ==== Sys2Proof/Laws/Decode.lean ====
section
/-! SUPPORT. What the decoder and the encoder's bits are, said once: the command built from fields has those fields, the
decoder of a zero byte, and one bit of a byte placed at a position. -/

namespace Sys2Proof

/-- A command is determined by its start bit and its fields. -/
@[simp] theorem commandOf_start_fields (i : Instr) : commandOf i.start i.fields = i := by
  cases i <;> rename_i start m p <;> revert start m p <;> decide

/-- The command built from fields has those fields. -/
@[simp] theorem fields_commandOf (start : Bool) (f : Fields) : (commandOf start f).fields = f := by
  obtain ⟨m, d, c, p⟩ := f
  revert start m d c p
  decide

/-- The command built with a start bit has it. -/
@[simp] theorem start_commandOf (start : Bool) (f : Fields) : (commandOf start f).start = start := by
  obtain ⟨m, d, c, p⟩ := f
  revert start m d c p
  decide

/-- The fields of the command a byte is, under any layout. -/
@[simp] theorem fields_decode (l : Layout) (b : Byte) : (decode l b).fields = decodeFields l b := fields_commandOf _ _

/-- The start bit of the command a byte is, under any layout. -/
@[simp] theorem start_decode (l : Layout) (b : Byte) : (decode l b).start = b.getLsbD 7 := start_commandOf _ _

/-- A zero byte selects channel 0 under any layout. -/
@[simp] theorem decodeFields_zero_channel (l : Layout) : (decodeFields l 0#8).channel = 0#3 := by
  simp [decodeFields]

/-- A bit placed at a position is that position's bit, and every other bit is 0. -/
theorem getLsbD_bitAt (position k : Nat) (b : Bool) :
    (bitAt position b).getLsbD k = (decide (k < 8) && decide (k = position) && b) := by
  cases b
  · simp [bitAt]
  · simp only [bitAt, BitVec.getLsbD_shiftLeft, BitVec.getLsbD_setWidth, BitVec.ofBool_true, Bool.and_true]
    by_cases h : k < position
    · simp [h, Nat.ne_of_lt h]
    · by_cases e : k = position
      · subst e; simp
      · have : k - position ≠ 0 := by omega
        simp [e, BitVec.getLsbD_one, this]

end Sys2Proof
end

