-- ==== Sys2Proof/Laws/State.lean ====
section
/-! SUPPORT. One lemma per field per named update of the state, so that no proof unfolds a record update. -/

namespace Sys2Proof.Machine

/-! `publish` -/

@[simp] theorem publish_csN (s : State) : (publish s).csN = s.csN := rfl
@[simp] theorem publish_cd (s : State) : (publish s).cd = s.cd := rfl
@[simp] theorem publish_ctrl (s : State) : (publish s).ctrl = s.ctrl := rfl
@[simp] theorem publish_osr (s : State) : (publish s).osr = s.osr := rfl
@[simp] theorem publish_penEn (s : State) : (publish s).penEn = s.penEn := rfl
@[simp] theorem publish_penIrq (s : State) : (publish s).penIrq = penIrqLevel s.penEn s.inp.touched s.ch s.cfg.touchChannels := rfl
@[simp] theorem publish_inp (s : State) : (publish s).inp = s.inp := rfl
@[simp] theorem publish_cfg (s : State) : (publish s).cfg = s.cfg := rfl
@[simp] theorem publish_script (s : State) : (publish s).script = s.script := rfl
@[simp] theorem publish_out (s : State) : (publish s).out = s.out := rfl

/-! `resetSequence` -/

@[simp] theorem resetSequence_csN (s : State) : (resetSequence s).csN = s.csN := rfl
@[simp] theorem resetSequence_cd (s : State) : (resetSequence s).cd = 0 := rfl
@[simp] theorem resetSequence_ctrl (s : State) : (resetSequence s).ctrl = 0 := rfl
@[simp] theorem resetSequence_osr (s : State) : (resetSequence s).osr = 0 := rfl
@[simp] theorem resetSequence_penEn (s : State) : (resetSequence s).penEn = true := rfl
@[simp] theorem resetSequence_penIrq (s : State) : (resetSequence s).penIrq = penIrqLevel true s.inp.touched 0 s.cfg.touchChannels := by
  simp [resetSequence, publish, State.ch, State.view]

@[simp] theorem resetSequence_inp (s : State) : (resetSequence s).inp = s.inp := rfl
@[simp] theorem resetSequence_cfg (s : State) : (resetSequence s).cfg = s.cfg := rfl
@[simp] theorem resetSequence_script (s : State) : (resetSequence s).script = s.script := rfl
@[simp] theorem resetSequence_out (s : State) : (resetSequence s).out = s.out := rfl

/-! `storeCode` -/

@[simp] theorem storeCode_csN (m : Bool) (k : Code) (s : State) : (storeCode m k s).csN = s.csN := rfl
@[simp] theorem storeCode_cd (m : Bool) (k : Code) (s : State) : (storeCode m k s).cd = if m then s.cd - 4 else s.cd := rfl
@[simp] theorem storeCode_ctrl (m : Bool) (k : Code) (s : State) : (storeCode m k s).ctrl = s.ctrl := rfl
@[simp] theorem storeCode_osr (m : Bool) (k : Code) (s : State) : (storeCode m k s).osr = justify m k := rfl
@[simp] theorem storeCode_penEn (m : Bool) (k : Code) (s : State) : (storeCode m k s).penEn = s.penEn := rfl
@[simp] theorem storeCode_penIrq (m : Bool) (k : Code) (s : State) : (storeCode m k s).penIrq = s.penIrq := rfl
@[simp] theorem storeCode_inp (m : Bool) (k : Code) (s : State) : (storeCode m k s).inp = s.inp := rfl
@[simp] theorem storeCode_cfg (m : Bool) (k : Code) (s : State) : (storeCode m k s).cfg = s.cfg := rfl
@[simp] theorem storeCode_script (m : Bool) (k : Code) (s : State) : (storeCode m k s).script = s.script := rfl
@[simp] theorem storeCode_out (m : Bool) (k : Code) (s : State) : (storeCode m k s).out = s.out := rfl

/-! `finishConversion` -/

@[simp] theorem finishConversion_csN (f : Fields) (k : Code) (s : State) : (finishConversion f k s).csN = s.csN := rfl
@[simp] theorem finishConversion_cd (f : Fields) (k : Code) (s : State) : (finishConversion f k s).cd = if f.mode8 then s.cd - 4 else s.cd := rfl
@[simp] theorem finishConversion_ctrl (f : Fields) (k : Code) (s : State) : (finishConversion f k s).ctrl = s.ctrl := rfl
@[simp] theorem finishConversion_osr (f : Fields) (k : Code) (s : State) : (finishConversion f k s).osr = justify f.mode8 k := rfl
@[simp] theorem finishConversion_penEn (f : Fields) (k : Code) (s : State) : (finishConversion f k s).penEn = penEnableOf f.powerSave := rfl
@[simp] theorem finishConversion_penIrq (f : Fields) (k : Code) (s : State) : (finishConversion f k s).penIrq = penIrqLevel (penEnableOf f.powerSave) s.inp.touched s.ch s.cfg.touchChannels := rfl
@[simp] theorem finishConversion_inp (f : Fields) (k : Code) (s : State) : (finishConversion f k s).inp = s.inp := rfl
@[simp] theorem finishConversion_cfg (f : Fields) (k : Code) (s : State) : (finishConversion f k s).cfg = s.cfg := rfl
@[simp] theorem finishConversion_script (f : Fields) (k : Code) (s : State) : (finishConversion f k s).script = s.script := rfl
@[simp] theorem finishConversion_out (f : Fields) (k : Code) (s : State) : (finishConversion f k s).out = s.out := rfl

/-! `recordDout` -/

@[simp] theorem recordDout_csN (b : Bool) (s : State) : (recordDout b s).csN = s.csN := rfl
@[simp] theorem recordDout_cd (b : Bool) (s : State) : (recordDout b s).cd = s.cd := rfl
@[simp] theorem recordDout_ctrl (b : Bool) (s : State) : (recordDout b s).ctrl = s.ctrl := rfl
@[simp] theorem recordDout_osr (b : Bool) (s : State) : (recordDout b s).osr = s.osr := rfl
@[simp] theorem recordDout_penEn (b : Bool) (s : State) : (recordDout b s).penEn = s.penEn := rfl
@[simp] theorem recordDout_penIrq (b : Bool) (s : State) : (recordDout b s).penIrq = s.penIrq := rfl
@[simp] theorem recordDout_inp (b : Bool) (s : State) : (recordDout b s).inp = s.inp := rfl
@[simp] theorem recordDout_cfg (b : Bool) (s : State) : (recordDout b s).cfg = s.cfg := rfl
@[simp] theorem recordDout_script (b : Bool) (s : State) : (recordDout b s).script = s.script := rfl
@[simp] theorem recordDout_out (b : Bool) (s : State) : (recordDout b s).out = { s.out with dout := s.out.dout ++ [b] } := rfl

/-! `driveOut` -/

@[simp] theorem driveOut_csN (s : State) : (driveOut s).csN = s.csN := rfl
@[simp] theorem driveOut_cd (s : State) : (driveOut s).cd = s.cd := rfl
@[simp] theorem driveOut_ctrl (s : State) : (driveOut s).ctrl = s.ctrl := rfl
@[simp] theorem driveOut_osr (s : State) : (driveOut s).osr = s.osr <<< 1 := rfl
@[simp] theorem driveOut_penEn (s : State) : (driveOut s).penEn = s.penEn := rfl
@[simp] theorem driveOut_penIrq (s : State) : (driveOut s).penIrq = s.penIrq := rfl
@[simp] theorem driveOut_inp (s : State) : (driveOut s).inp = s.inp := rfl
@[simp] theorem driveOut_cfg (s : State) : (driveOut s).cfg = s.cfg := rfl
@[simp] theorem driveOut_script (s : State) : (driveOut s).script = s.script := rfl
@[simp] theorem driveOut_out (s : State) : (driveOut s).out = { s.out with dout := s.out.dout ++ [s.osr.msb] } := rfl

/-! `tick` -/

@[simp] theorem tick_csN (s : State) : (tick s).csN = s.csN := rfl
@[simp] theorem tick_cd (s : State) : (tick s).cd = if s.cd == 0 then 0 else s.cd - 1 := rfl
@[simp] theorem tick_ctrl (s : State) : (tick s).ctrl = s.ctrl := rfl
@[simp] theorem tick_osr (s : State) : (tick s).osr = s.osr := rfl
@[simp] theorem tick_penEn (s : State) : (tick s).penEn = s.penEn := rfl
@[simp] theorem tick_penIrq (s : State) : (tick s).penIrq = s.penIrq := rfl
@[simp] theorem tick_inp (s : State) : (tick s).inp = s.inp := rfl
@[simp] theorem tick_cfg (s : State) : (tick s).cfg = s.cfg := rfl
@[simp] theorem tick_script (s : State) : (tick s).script = s.script := rfl
@[simp] theorem tick_out (s : State) : (tick s).out = s.out := rfl

/-! `startBit` -/

@[simp] theorem startBit_csN (b : Bool) (s : State) : (startBit b s).csN = s.csN := by cases b <;> rfl
@[simp] theorem startBit_cd (b : Bool) (s : State) : (startBit b s).cd = if b then 15 else s.cd := by cases b <;> rfl
@[simp] theorem startBit_ctrl (b : Bool) (s : State) : (startBit b s).ctrl = if b then 1 else s.ctrl := by cases b <;> rfl
@[simp] theorem startBit_osr (b : Bool) (s : State) : (startBit b s).osr = s.osr := by cases b <;> rfl
@[simp] theorem startBit_penEn (b : Bool) (s : State) : (startBit b s).penEn = s.penEn := by cases b <;> rfl
@[simp] theorem startBit_penIrq (b : Bool) (s : State) : (startBit b s).penIrq = s.penIrq := by cases b <;> rfl
@[simp] theorem startBit_inp (b : Bool) (s : State) : (startBit b s).inp = s.inp := by cases b <;> rfl
@[simp] theorem startBit_cfg (b : Bool) (s : State) : (startBit b s).cfg = s.cfg := by cases b <;> rfl
@[simp] theorem startBit_script (b : Bool) (s : State) : (startBit b s).script = s.script := by cases b <;> rfl
@[simp] theorem startBit_out (b : Bool) (s : State) : (startBit b s).out = s.out := by cases b <;> rfl

/-! `accumulate` -/

@[simp] theorem accumulate_csN (b : Bool) (s : State) : (accumulate b s).csN = s.csN := rfl
@[simp] theorem accumulate_cd (b : Bool) (s : State) : (accumulate b s).cd = s.cd := rfl
@[simp] theorem accumulate_ctrl (b : Bool) (s : State) : (accumulate b s).ctrl = (s.ctrl <<< 1) ||| (BitVec.ofBool b).setWidth 8 := rfl
@[simp] theorem accumulate_osr (b : Bool) (s : State) : (accumulate b s).osr = s.osr := rfl
@[simp] theorem accumulate_penEn (b : Bool) (s : State) : (accumulate b s).penEn = s.penEn := rfl
@[simp] theorem accumulate_penIrq (b : Bool) (s : State) : (accumulate b s).penIrq = s.penIrq := rfl
@[simp] theorem accumulate_inp (b : Bool) (s : State) : (accumulate b s).inp = s.inp := rfl
@[simp] theorem accumulate_cfg (b : Bool) (s : State) : (accumulate b s).cfg = s.cfg := rfl
@[simp] theorem accumulate_script (b : Bool) (s : State) : (accumulate b s).script = s.script := rfl
@[simp] theorem accumulate_out (b : Bool) (s : State) : (accumulate b s).out = s.out := rfl

/-! `hardReset` -/

@[simp] theorem hardReset_csN (s : State) : (hardReset s).csN = s.csN := rfl
@[simp] theorem hardReset_cd (s : State) : (hardReset s).cd = 0 := rfl
@[simp] theorem hardReset_ctrl (s : State) : (hardReset s).ctrl = 0 := rfl
@[simp] theorem hardReset_osr (s : State) : (hardReset s).osr = 0 := rfl
@[simp] theorem hardReset_penEn (s : State) : (hardReset s).penEn = true := rfl
@[simp] theorem hardReset_penIrq (s : State) : (hardReset s).penIrq = penIrqLevel true s.inp.touched 0 s.cfg.touchChannels := by
  simp [hardReset, resetSequence, publish, State.ch, State.view]

@[simp] theorem hardReset_inp (s : State) : (hardReset s).inp = s.inp := rfl
@[simp] theorem hardReset_cfg (s : State) : (hardReset s).cfg = s.cfg := rfl
@[simp] theorem hardReset_script (s : State) : (hardReset s).script = s.script := rfl
@[simp] theorem hardReset_out (s : State) : (hardReset s).out = s.out := rfl

/-! `refreshPenIrq` -/

@[simp] theorem refreshPenIrq_csN (s : State) : (refreshPenIrq s).csN = s.csN := rfl
@[simp] theorem refreshPenIrq_cd (s : State) : (refreshPenIrq s).cd = s.cd := rfl
@[simp] theorem refreshPenIrq_ctrl (s : State) : (refreshPenIrq s).ctrl = s.ctrl := rfl
@[simp] theorem refreshPenIrq_osr (s : State) : (refreshPenIrq s).osr = s.osr := rfl
@[simp] theorem refreshPenIrq_penEn (s : State) : (refreshPenIrq s).penEn = s.penEn := rfl
@[simp] theorem refreshPenIrq_penIrq (s : State) : (refreshPenIrq s).penIrq = penIrqLevel s.penEn s.inp.touched s.ch s.cfg.touchChannels := rfl
@[simp] theorem refreshPenIrq_inp (s : State) : (refreshPenIrq s).inp = s.inp := rfl
@[simp] theorem refreshPenIrq_cfg (s : State) : (refreshPenIrq s).cfg = s.cfg := rfl
@[simp] theorem refreshPenIrq_script (s : State) : (refreshPenIrq s).script = s.script := rfl
@[simp] theorem refreshPenIrq_out (s : State) : (refreshPenIrq s).out = s.out := rfl

/-! `getPenIrq` -/

@[simp] theorem getPenIrq_csN (s : State) : (getPenIrq s).csN = s.csN := rfl
@[simp] theorem getPenIrq_cd (s : State) : (getPenIrq s).cd = s.cd := rfl
@[simp] theorem getPenIrq_ctrl (s : State) : (getPenIrq s).ctrl = s.ctrl := rfl
@[simp] theorem getPenIrq_osr (s : State) : (getPenIrq s).osr = s.osr := rfl
@[simp] theorem getPenIrq_penEn (s : State) : (getPenIrq s).penEn = s.penEn := rfl
@[simp] theorem getPenIrq_penIrq (s : State) : (getPenIrq s).penIrq = s.penIrq := rfl
@[simp] theorem getPenIrq_inp (s : State) : (getPenIrq s).inp = s.inp := rfl
@[simp] theorem getPenIrq_cfg (s : State) : (getPenIrq s).cfg = s.cfg := rfl
@[simp] theorem getPenIrq_script (s : State) : (getPenIrq s).script = s.script := rfl
@[simp] theorem getPenIrq_out (s : State) : (getPenIrq s).out = { s.out with irq := s.out.irq ++ [s.penIrq] } := rfl

/-! `size` -/

@[simp] theorem size_csN (s : State) : (size s).csN = s.csN := rfl
@[simp] theorem size_cd (s : State) : (size s).cd = s.cd := rfl
@[simp] theorem size_ctrl (s : State) : (size s).ctrl = s.ctrl := rfl
@[simp] theorem size_osr (s : State) : (size s).osr = s.osr := rfl
@[simp] theorem size_penEn (s : State) : (size s).penEn = s.penEn := rfl
@[simp] theorem size_penIrq (s : State) : (size s).penIrq = s.penIrq := rfl
@[simp] theorem size_inp (s : State) : (size s).inp = s.inp := rfl
@[simp] theorem size_cfg (s : State) : (size s).cfg = s.cfg := rfl
@[simp] theorem size_script (s : State) : (size s).script = s.script := rfl
@[simp] theorem size_out (s : State) : (size s).out = { s.out with size := s.out.size ++ [imageSize] } := rfl

/-! `save` -/

@[simp] theorem save_csN (s : State) : (save s).csN = s.csN := rfl
@[simp] theorem save_cd (s : State) : (save s).cd = s.cd := rfl
@[simp] theorem save_ctrl (s : State) : (save s).ctrl = s.ctrl := rfl
@[simp] theorem save_osr (s : State) : (save s).osr = s.osr := rfl
@[simp] theorem save_penEn (s : State) : (save s).penEn = s.penEn := rfl
@[simp] theorem save_penIrq (s : State) : (save s).penIrq = s.penIrq := rfl
@[simp] theorem save_inp (s : State) : (save s).inp = s.inp := rfl
@[simp] theorem save_cfg (s : State) : (save s).cfg = s.cfg := rfl
@[simp] theorem save_script (s : State) : (save s).script = s.script := rfl
@[simp] theorem save_out (s : State) : (save s).out = { s.out with image := s.out.image ++ [imageOf s] } := rfl

/-! `setInput` -/

@[simp] theorem setInput_csN (i : Snapshot) (s : State) : (setInput i s).csN = s.csN := rfl
@[simp] theorem setInput_cd (i : Snapshot) (s : State) : (setInput i s).cd = s.cd := rfl
@[simp] theorem setInput_ctrl (i : Snapshot) (s : State) : (setInput i s).ctrl = s.ctrl := rfl
@[simp] theorem setInput_osr (i : Snapshot) (s : State) : (setInput i s).osr = s.osr := rfl
@[simp] theorem setInput_penEn (i : Snapshot) (s : State) : (setInput i s).penEn = s.penEn := rfl
@[simp] theorem setInput_penIrq (i : Snapshot) (s : State) : (setInput i s).penIrq = s.penIrq := rfl
@[simp] theorem setInput_inp (i : Snapshot) (s : State) : (setInput i s).inp = i := rfl
@[simp] theorem setInput_cfg (i : Snapshot) (s : State) : (setInput i s).cfg = s.cfg := rfl
@[simp] theorem setInput_script (i : Snapshot) (s : State) : (setInput i s).script = s.script := rfl
@[simp] theorem setInput_out (i : Snapshot) (s : State) : (setInput i s).out = s.out := rfl

/-! `setChipSelect`: the fields no edge writes, and the level -/

@[simp] theorem setChipSelect_csN (level : Bool) (s : State) : (setChipSelect level s).csN = level := by
  unfold setChipSelect; split <;> rfl

@[simp] theorem setChipSelect_inp (level : Bool) (s : State) : (setChipSelect level s).inp = s.inp := by
  unfold setChipSelect; split <;> rfl

@[simp] theorem setChipSelect_cfg (level : Bool) (s : State) : (setChipSelect level s).cfg = s.cfg := by
  unfold setChipSelect; split <;> rfl

@[simp] theorem setChipSelect_script (level : Bool) (s : State) : (setChipSelect level s).script = s.script := by
  unfold setChipSelect; split <;> rfl

@[simp] theorem setChipSelect_out (level : Bool) (s : State) : (setChipSelect level s).out = s.out := by
  unfold setChipSelect; split <;> rfl

end Sys2Proof.Machine
end

