-- ==== Sys2Proof/Laws/Ops.lean ====
section
/-! SUPPORT. What each shared operation can do, said once: the lemmas a proof cites instead of unfolding the operation. -/

namespace Sys2Proof.Machine

/-! Outcomes -/

/-- A changed outcome is a next state exactly when the outcome was. -/
theorem mapNext_next {f : State → State} {o : Host.Outcome State Fault Refusal} {t : State}
    (h : mapNext f o = .next t) : ∃ s, o = .next s ∧ t = f s := by
  cases o with
  | next s => exact ⟨s, rfl, by simpa [mapNext] using h.symm⟩
  | fault r => nomatch r
  | refused r => simp [mapNext] at h

/-- A continued outcome is a next state only where both parts are. -/
theorem bindNext_next {f : State → Host.Outcome State Fault Refusal} {o : Host.Outcome State Fault Refusal} {t : State}
    (h : bindNext f o = .next t) : ∃ s, o = .next s ∧ f s = .next t := by
  cases o with
  | next s => exact ⟨s, rfl, h⟩
  | fault r => nomatch r
  | refused r => simp [bindNext] at h

@[simp] theorem mapNext_of_next (f : State → State) (s : State) : mapNext f (.next s) = .next (f s) := rfl

@[simp] theorem bindNext_of_next (f : State → Host.Outcome State Fault Refusal) (s : State) :
    bindNext f (.next s) = f s := rfl

/-! Sequences of operations -/

@[simp] theorem performAll_nil (s : State) : performAll [] s = .next s := rfl

theorem performAll_cons (op : BusOp) (ops : List BusOp) (s : State) :
    performAll (op :: ops) s = bindNext (performAll ops) (perform op s) := rfl

/-- A sequence runs its first part, then its second. -/
theorem performAll_append (xs ys : List BusOp) (s : State) :
    performAll (xs ++ ys) s = bindNext (performAll ys) (performAll xs s) := by
  induction xs generalizing s with
  | nil => rfl
  | cons op xs ih =>
    rw [List.cons_append, performAll_cons, performAll_cons]
    cases perform op s with
    | next t => exact ih t
    | fault r => nomatch r
    | refused r => rfl

/-! Configurations -/

theorem mem_allChannels (c : Channel) : c ∈ allChannels := by revert c; decide

/-- Every key of a well-formed configuration is well-formed. -/
theorem keyOk_of_configOk {cfg : Config} (h : configOk cfg = true) (d : Bool) (c : Channel) (t : Bool) :
    keyOk cfg d c t = true := by
  simp only [configOk, Bool.and_eq_true, List.all_eq_true] at h
  obtain ⟨⟨⟨h1, h2⟩, h3⟩, h4⟩ := h.2 c (mem_allChannels c)
  cases d <;> cases t <;> assumption

/-- A key the source fixes holds the fixed entry. -/
theorem channelTable_of_fixed {cfg : Config} (h : configOk cfg = true) {d : Bool} {c : Channel} {t : Bool} {e : Entry}
    (he : fixedEntry d c t = some e) : channelTable cfg d c t = e := by
  have hk := keyOk_of_configOk h d c t
  simp only [keyOk, he, Bool.and_eq_true, decide_eq_true_eq] at hk
  exact hk.2

/-! Conversions -/

/-- Every command is the shared conversion on its own fields. -/
theorem exec_eq_convert (i : Instr) (s : State) : exec i s = convert i.fields s := by cases i <;> rfl

/-- A conversion with a code completes. -/
theorem convert_of_code {f : Fields} {s : State} {code : Code} (hc : configOk s.cfg = true)
    (hk : conversionCode f s.cfg s.inp = .ok code) : convert f s = .next (finishConversion f code s) := by
  simp [convert, hc, hk]

/-- All a conversion can do: with a well-formed configuration and a code, store it; or be refused. -/
theorem convert_next {f : Fields} {s t : State} (h : convert f s = .next t) :
    configOk s.cfg = true ∧ ∃ code, conversionCode f s.cfg s.inp = .ok code ∧ t = finishConversion f code s := by
  unfold convert at h
  split at h
  · split at h
    · rename_i code hk
      exact ⟨‹_›, code, hk, by simpa using h.symm⟩
    · simp at h
  · simp at h

/-- The published level needs its enable. -/
theorem penEn_of_penIrqLevel {e t : Bool} {c : Channel} {l : List Channel} (h : penIrqLevel e t c l = true) :
    e = true := by
  simp only [penIrqLevel, Bool.and_eq_true] at h
  exact h.1.1

/-! One clock -/

/-- All a clock can do. -/
theorem exchangeBit_next {b : Bool} {s t : State} (h : exchangeBit b s = .next t) :
    (s.csN = true ∧ t = recordDout true s) ∨
    (s.csN = false ∧ (tick s).cd = 0 ∧ t = driveOut (startBit b (tick s))) ∨
    (s.csN = false ∧ (8 : Countdown) ≤ (tick s).cd ∧ t = driveOut (accumulate b (tick s))) ∨
    (s.csN = false ∧ (tick s).cd = 6 ∧ configOk s.cfg = true ∧
      ∃ code, conversionCode (decode s.cfg.layout s.ctrl).fields s.cfg s.inp = .ok code ∧
        t = driveOut (finishConversion (decode s.cfg.layout s.ctrl).fields code (tick s))) ∨
    (s.csN = false ∧ (tick s).cd ≠ 0 ∧ (tick s).cd ≠ 6 ∧ ¬ (8 : Countdown) ≤ (tick s).cd ∧ t = driveOut (tick s)) := by
  unfold exchangeBit at h
  split at h
  · exact .inl ⟨‹_›, by simpa using h.symm⟩
  · rename_i hcs
    have hcs' : s.csN = false := by simpa using hcs
    unfold selectedClock at h
    split at h
    · rename_i h0
      exact .inr (.inl ⟨hcs', by simpa using h0, by simpa using h.symm⟩)
    · rename_i h0
      split at h
      · rename_i h8
        exact .inr (.inr (.inl ⟨hcs', h8, by simpa using h.symm⟩))
      · rename_i h8
        split at h
        · rename_i h6
          obtain ⟨u, hu, rfl⟩ := mapNext_next h
          rw [exec_eq_convert] at hu
          obtain ⟨hc, code, hk, rfl⟩ := convert_next hu
          exact .inr (.inr (.inr (.inl ⟨hcs', by simpa using h6, hc, code, hk, rfl⟩)))
        · rename_i h6
          exact .inr (.inr (.inr (.inr ⟨hcs', by simpa using h0, by simpa using h6, h8, by simpa using h.symm⟩)))

/-! The image port -/

/-- All an accepted `load` can do. -/
theorem loadImage_next {img : List Byte} {s t : State} (h : loadImage img s = .next t) :
    ∃ b0 b1 b2 b3 b4 b5 rest, img = b0 :: b1 :: b2 :: b3 :: b4 :: b5 :: rest ∧
      t = publish { s with penEn := b0.getLsbD 0, cd := b1.extractLsb' 0 4, ctrl := b2, osr := b3 ++ b4,
                           csN := b5.getLsbD 0 } := by
  unfold loadImage at h
  split at h
  · split at h
    · simp at h
    · exact ⟨_, _, _, _, _, _, _, rfl, by simpa using h.symm⟩
  · simp at h

/-- The image has six bytes. -/
theorem imageOf_length (s : State) : (imageOf s).length = 6 := rfl

end Sys2Proof.Machine
end

