-- ==== Sys2Proof/Laws/PerInstr.lean ====
section
/-! SUPPORT. Facts about every command as syntax, one lemma per constructor: the encoding of a command lies in its row
of the opcode table (30_encoding.md R75). -/

namespace Sys2Proof.Laws.EncodeKeepsRow

/-- In the default layout, under the mask of the opcode table, a command's control byte is its row's match value, whatever its operands. -/
def Statement (i : Instr) : Prop := encode Layout.standard i &&& rowMask = i.matchBits


theorem convCh0Ser (start mode8 : Bool) (pd : PowerSave) : Statement (.convCh0Ser start mode8 pd) := by
  unfold Statement; revert start mode8 pd; decide

theorem convCh0Dfr (start mode8 : Bool) (pd : PowerSave) : Statement (.convCh0Dfr start mode8 pd) := by
  unfold Statement; revert start mode8 pd; decide

theorem convCh1Ser (start mode8 : Bool) (pd : PowerSave) : Statement (.convCh1Ser start mode8 pd) := by
  unfold Statement; revert start mode8 pd; decide

theorem convCh1Dfr (start mode8 : Bool) (pd : PowerSave) : Statement (.convCh1Dfr start mode8 pd) := by
  unfold Statement; revert start mode8 pd; decide

theorem convCh2Ser (start mode8 : Bool) (pd : PowerSave) : Statement (.convCh2Ser start mode8 pd) := by
  unfold Statement; revert start mode8 pd; decide

theorem convCh2Dfr (start mode8 : Bool) (pd : PowerSave) : Statement (.convCh2Dfr start mode8 pd) := by
  unfold Statement; revert start mode8 pd; decide

theorem convCh3Ser (start mode8 : Bool) (pd : PowerSave) : Statement (.convCh3Ser start mode8 pd) := by
  unfold Statement; revert start mode8 pd; decide

theorem convCh3Dfr (start mode8 : Bool) (pd : PowerSave) : Statement (.convCh3Dfr start mode8 pd) := by
  unfold Statement; revert start mode8 pd; decide

theorem convCh4Ser (start mode8 : Bool) (pd : PowerSave) : Statement (.convCh4Ser start mode8 pd) := by
  unfold Statement; revert start mode8 pd; decide

theorem convCh4Dfr (start mode8 : Bool) (pd : PowerSave) : Statement (.convCh4Dfr start mode8 pd) := by
  unfold Statement; revert start mode8 pd; decide

theorem convCh5Ser (start mode8 : Bool) (pd : PowerSave) : Statement (.convCh5Ser start mode8 pd) := by
  unfold Statement; revert start mode8 pd; decide

theorem convCh5Dfr (start mode8 : Bool) (pd : PowerSave) : Statement (.convCh5Dfr start mode8 pd) := by
  unfold Statement; revert start mode8 pd; decide

theorem convCh6Ser (start mode8 : Bool) (pd : PowerSave) : Statement (.convCh6Ser start mode8 pd) := by
  unfold Statement; revert start mode8 pd; decide

theorem convCh6Dfr (start mode8 : Bool) (pd : PowerSave) : Statement (.convCh6Dfr start mode8 pd) := by
  unfold Statement; revert start mode8 pd; decide

theorem convCh7Ser (start mode8 : Bool) (pd : PowerSave) : Statement (.convCh7Ser start mode8 pd) := by
  unfold Statement; revert start mode8 pd; decide

theorem convCh7Dfr (start mode8 : Bool) (pd : PowerSave) : Statement (.convCh7Dfr start mode8 pd) := by
  unfold Statement; revert start mode8 pd; decide

end Sys2Proof.Laws.EncodeKeepsRow
end

