-- ==== Sys2Proof/Tests/Slice0.lean ====
section
/-! SUPPORT. Small tests: an ill-formed term for every check, a written-out control byte for every command, one
operation at a time against the vectors of 95_test_vectors.md and hand calculation from the rules, and for every
obligation with hypotheses a concrete state and operands that meet them. -/

namespace Sys2Proof.Tests

open Sys2Proof Sys2Proof.Machine

-- One theorem at a time: checked side by side, kernel evaluations hold a thread each.
set_option Elab.async false

/-! ## Helpers -/

/-- A chosen table for the entries the source leaves OPEN (95_test_vectors.md 2.5: such rows are tested with a chosen
table only): every entry different, three more linear entries. -/
def labConfig : Config where
  table := #v[
    .const 0x001, .const 0x002, .const 0x013, .linear .y 0 1 0xF00 0x100,
    .const 0x025, .const 0x026, .const 0x037, .linear .x (1 / 4) (3 / 4) 0x400 0x800,
    .const 0x049, .const 0x04A, .const 0x3FB, .linear .x 0 1 0x0FD 0xF47,
    .port, .port, .const 0x07F, .const 0x070,
    .const 0xFFF, .const 0xFFF, .const 0x113, .const 0x114,
    .const 0x125, .const 0x126, .const 0x137, .const 0x138,
    .const 0x149, .linear .y 0 1 0x000 0xFFF, .const 0x15B, .const 0x15C,
    .const 0x16D, .const 0x16E, .const 0x17F, .const 0x170]
  portCodes := { none := 0xA01, usbCradle := 0xA02, serialCradle := 0xA03, usbPeripheral := 0xA04,
                 serialPeripheral := 0xA05 }
  interp := .truncate
  touchChannels := [1, 3, 4, 5]
  layout := .standard

/-- Another layout: MODE at bit 6, SER/DFR at bit 5, A at bits 2:4 in reverse order, PD at bits 1:0. -/
def otherLayout : Layout := { mode := 6, ser := 5, a2 := 2, a1 := 3, a0 := 4, pd1 := 1, pd0 := 0 }

/-- A touch at x = 1/2, y = 1/4, with a USB peripheral in the port. -/
def touchedInput : Snapshot := { x := 1 / 2, y := 1 / 4, touched := true, port := .usbPeripheral }

/-- No touch, the pointer at rest at x = 1/2, y = 1/4. -/
def dormantInput : Snapshot := { touchedInput with touched := false }

/-- The state `(cs_n, cd, ctrl, osr, pen_en, pen_irq)` of 95_test_vectors.md under a configuration and a snapshot. -/
def mk (cfg : Config) (inp : Snapshot) (csN : Bool) (cd : Countdown) (ctrl : Byte) (osr : ShiftWord)
    (penEn penIrq : Bool) : State :=
  { State.powerOn cfg inp with csN := csN, cd := cd, ctrl := ctrl, osr := osr, penEn := penEn, penIrq := penIrq }

/-- The state at the conversion clock of a command, with recognisable old values of what the conversion writes. -/
def converting (inp : Snapshot) (ctrl : Byte) : State := mk labConfig inp false 6 ctrl 0xABCD false true

/-- The six elements of the block, in the order of 95_test_vectors.md. -/
structure Elements where
  csN : Bool
  cd : Countdown
  ctrl : Byte
  osr : ShiftWord
  penEn : Bool
  penIrq : Bool
deriving DecidableEq, Repr

/-- The six elements of a next state. -/
def elements : Host.Outcome State Fault Refusal → Option Elements
  | .next s => some ⟨s.csN, s.cd, s.ctrl, s.osr, s.penEn, s.penIrq⟩
  | _ => none

/-- The last DOUT bit of a next state. -/
def lastDout : Host.Outcome State Fault Refusal → Option Bool
  | .next s => s.out.dout.getLast?
  | _ => none

/-- An operation with elements after it answers a next state. -/
theorem exists_next {o : Host.Outcome State Fault Refusal} (h : (elements o).isSome = true) : ∃ t, o = .next t := by
  cases o with
  | next s => exact ⟨s, rfl⟩
  | fault r => nomatch r
  | refused r => cases h

/-- Why an operation was refused. -/
def refusal : Host.Outcome State Fault Refusal → Option Refusal
  | .refused r => some r
  | _ => none

/-- What a command writes: `osr`, `cd`, `pen_en` and `pen_irq`. -/
def written : Host.Outcome State Fault Refusal → Option (ShiftWord × Countdown × Bool × Bool)
  | .next s => some (s.osr, s.cd, s.penEn, s.penIrq)
  | _ => none

/-- The configuration with one entry of its table replaced. -/
def withEntry (k : Fin 32) (e : Entry) : Config := { labConfig with table := labConfig.table.set k e }

/-! ## Every check refuses an ill-formed term -/

theorem test_framed_accepts : (Instr.convCh5Ser true false 0).framed = true := by decide
theorem test_framed_refuses_start_bit_zero : (Instr.convCh5Ser false false 0).framed = false := by decide

theorem test_in_range_accepts_both_ends :
    ({ touchedInput with x := 0, y := 1 } : Snapshot).inRange = true ∧
    ({ touchedInput with x := 1, y := 0 } : Snapshot).inRange = true := by decide +kernel
theorem test_in_range_refuses_x_above_one : ({ touchedInput with x := 3 / 2 } : Snapshot).inRange = false := by
  decide +kernel
theorem test_in_range_refuses_x_below_zero : ({ touchedInput with x := -1 } : Snapshot).inRange = false := by
  decide +kernel
theorem test_in_range_refuses_y_above_one : ({ touchedInput with y := 2 } : Snapshot).inRange = false := by
  decide +kernel
theorem test_in_range_refuses_y_below_zero : ({ touchedInput with y := -1 / 2 } : Snapshot).inRange = false := by
  decide +kernel

theorem test_config_accepts_lab : configOk labConfig = true := by decide +kernel
theorem test_config_accepts_reset : configOk Config.atReset = true := by decide
-- R165: with an unknown rounding the same table is well-formed, its endpoints being integers.
theorem test_config_accepts_neighbour : configOk { labConfig with interp := .neighbour } = true := by decide +kernel
-- R7: four touch channels.
theorem test_config_refuses_three_touch_channels : configOk { labConfig with touchChannels := [1, 3, 5] } = false := by
  decide +kernel
theorem test_config_refuses_repeated_touch_channel :
    configOk { labConfig with touchChannels := [1, 3, 5, 5] } = false := by decide +kernel
-- R167, with R170: channel 5 carries a linear entry, so it is a touch channel.
theorem test_config_refuses_channel5_no_touch_channel :
    configOk { labConfig with touchChannels := [0, 1, 3, 4] } = false := by decide +kernel
-- R7, D1: the layout is a permutation.
theorem test_config_refuses_layout_no_permutation :
    ({ Layout.standard with mode := 2 } : Layout).isPermutation = false ∧
    configOk { labConfig with layout := { Layout.standard with mode := 2 } } = false := by decide +kernel
-- R7: another permutation is well-formed.
theorem test_config_accepts_other_layout : configOk { labConfig with layout := otherLayout } = true := by decide +kernel
-- R167, R168, R169: the fixed entries.
theorem test_config_refuses_other_channel5_touched :
    configOk (withEntry 11 (.linear .x 0 1 0x0FE 0xF47)) = false := by decide +kernel
theorem test_config_refuses_other_channel5_dormant : configOk (withEntry 10 (.const 0x3FC)) = false := by decide +kernel
theorem test_config_refuses_other_channel0_differential : configOk (withEntry 16 (.const 0xFFE)) = false := by
  decide +kernel
-- R170: a dormant entry is constant, a non-pointer entry constant or the port.
theorem test_config_refuses_linear_dormant_entry : configOk (withEntry 2 (.linear .y 0 1 0 1)) = false := by
  decide +kernel
theorem test_config_refuses_linear_other_channel : configOk (withEntry 5 (.linear .y 0 1 0 1)) = false := by
  decide +kernel
theorem test_config_refuses_port_on_touch_channel : configOk (withEntry 9 .port) = false := by decide +kernel
-- R163: the source range is no single point.
theorem test_config_refuses_empty_source_range : configOk (withEntry 9 (.linear .x 1 1 0 1)) = false := by
  decide +kernel
-- R171: an endpoint above 0xFFF, an endpoint below 0; truncation brings -1/2 to 0 and the floor does not.
theorem test_config_refuses_endpoint_above : configOk (withEntry 9 (.linear .x 0 (1 / 2) 0 0xFFF)) = false := by
  decide +kernel
theorem test_config_refuses_endpoint_below : configOk (withEntry 9 (.linear .x (1 / 2) 1 1 3)) = false := by
  decide +kernel
theorem test_config_rounding_matters_below_zero :
    configOk (withEntry 9 (.linear .x (1 / 3) 1 1 4)) = true ∧
    configOk { withEntry 9 (.linear .x (1 / 3) 1 1 4) with interp := .neighbour } = false := by decide +kernel

-- V-IM9 to V-IM12, and V-IM13's accepted longer buffer.
theorem test_image_check_refuses :
    imageOk [0x01, 0x08, 0xD4, 0x00, 0x00] = false ∧ imageOk [0x02, 0x08, 0xD4, 0x00, 0x00, 0x00] = false ∧
    imageOk [0x01, 0x10, 0xD4, 0x00, 0x00, 0x00] = false ∧ imageOk [0x01, 0x00, 0xD4, 0x00, 0x00, 0xFF] = false ∧
    imageOk [0x01, 0x0F, 0x01, 0x00, 0x00, 0x00, 0xAA] = true := by decide

theorem test_allowed_refuses :
    (BusOp.load []).allowed = false ∧ (BusOp.input { touchedInput with x := 2 }).allowed = false := by decide +kernel

/-! ## Decoding: a word for every command, written out from 30_encoding.md R71 and R75 (S A2 A1 A0 MODE SER PD1 PD0) -/

theorem test_decode_ch0_ser : decodeTableWord 8 0b10000110 = some (.convCh0Ser true false 2) := by decide
theorem test_decode_ch0_dfr : decodeTableWord 8 0b10001001 = some (.convCh0Dfr true true 1) := by decide
theorem test_decode_ch1_ser : decodeTableWord 8 0b10011101 = some (.convCh1Ser true true 1) := by decide
theorem test_decode_ch1_dfr : decodeTableWord 8 0b10010011 = some (.convCh1Dfr true false 3) := by decide
theorem test_decode_ch2_ser : decodeTableWord 8 0b10100100 = some (.convCh2Ser true false 0) := by decide
theorem test_decode_ch2_dfr : decodeTableWord 8 0b10101010 = some (.convCh2Dfr true true 2) := by decide
theorem test_decode_ch3_ser : decodeTableWord 8 0b10110110 = some (.convCh3Ser true false 2) := by decide
theorem test_decode_ch3_dfr : decodeTableWord 8 0b10111001 = some (.convCh3Dfr true true 1) := by decide
theorem test_decode_ch4_ser : decodeTableWord 8 0b11001111 = some (.convCh4Ser true true 3) := by decide
theorem test_decode_ch4_dfr : decodeTableWord 8 0b11000001 = some (.convCh4Dfr true false 1) := by decide
theorem test_decode_ch5_ser : decodeTableWord 8 0b11011100 = some (.convCh5Ser true true 0) := by decide
theorem test_decode_ch5_dfr : decodeTableWord 8 0b11010010 = some (.convCh5Dfr true false 2) := by decide
theorem test_decode_ch6_ser : decodeTableWord 8 0b11100110 = some (.convCh6Ser true false 2) := by decide
theorem test_decode_ch6_dfr : decodeTableWord 8 0b11101001 = some (.convCh6Dfr true true 1) := by decide
theorem test_decode_ch7_ser : decodeTableWord 8 0b11111111 = some (.convCh7Ser true true 3) := by decide
theorem test_decode_ch7_dfr : decodeTableWord 8 0b01111011 = some (.convCh7Dfr false true 3) := by decide
theorem test_decode_nothing : decodeBytes .standard [] = .noControlByte := by decide
theorem test_encode_written_out : encode .standard (.convCh5Ser true false 0) = 0xD4 ∧
    encode .standard (.convCh3Dfr true false 2) = 0xB2 ∧ encode .standard (.convCh7Dfr false true 3) = 0x7B := by decide
-- R7: another layout. S = 1, MODE = 1 at bit 6, SER = 0 at bit 5, A = 001 with its low bit at bit 4, PD = 2.
theorem test_other_layout : decode otherLayout 0b11010010 = .convCh1Dfr true true 2 ∧
    encode otherLayout (.convCh1Dfr true true 2) = 0b11010010 := by decide

-- The table's word 0xD4 placed under the other layout stands in `ctrl` as 1 0 1 1 0 1 0 0 and converts 0x3FB.
theorem test_other_layout_step :
    (match step ((State.powerOn { Config.atReset with layout := otherLayout } dormantInput).withFetchWord 8 0xD4) with
      | .next t => some (t.ctrl, t.osr)
      | _ => none) = some (0b10110100, 0x7F60) := by decide

/-! ## The sixteen commands, one conversion each (43_channel_mapper.md R160 to R176; hand calculation on `labConfig`) -/

-- R131: 0x002 << 4; channel 0 publishes pen_en AND touched.
theorem test_ch0_ser : written (exec (decode .standard 0x84) (converting touchedInput 0x84)) = some (0x0020, 6, true, true) := by
  decide +kernel
-- V-CV8c with PD 1: 0xFFF0 & 0xFF00, 6 - 4, disabled.
theorem test_ch0_dfr : written (exec (decode .standard 0x89) (converting touchedInput 0x89)) = some (0xFF00, 2, false, false) := by
  decide +kernel
-- R133: 1/4 of the way from 0xF00 down to 0x100 is 0xB80; a touch channel publishes 0.
theorem test_ch1_ser : written (exec (decode .standard 0x94) (converting touchedInput 0x94)) = some (0xB800, 6, true, false) := by
  decide +kernel
theorem test_ch1_dfr : written (exec (decode .standard 0x93) (converting touchedInput 0x93)) = some (0x1140, 6, false, false) := by
  decide +kernel
theorem test_ch2_ser : written (exec (decode .standard 0xAC) (converting touchedInput 0xAC)) = some (0x0200, 2, true, true) := by
  decide +kernel
theorem test_ch2_dfr : written (exec (decode .standard 0xA0) (converting dormantInput 0xA0)) = some (0x1250, 6, true, false) := by
  decide +kernel
-- R137: x = 1/2 is half of the source range 1/4 .. 3/4, half of 0x400 .. 0x800.
theorem test_ch3_ser : written (exec (decode .standard 0xB4) (converting touchedInput 0xB4)) = some (0x6000, 6, true, false) := by
  decide +kernel
-- R138's example: PD = 2, nothing touching.
theorem test_ch3_dfr : written (exec (decode .standard 0xB2) (converting dormantInput 0xB2)) = some (0x0000, 6, true, false) := by
  decide +kernel
theorem test_ch4_ser : written (exec (decode .standard 0xC4) (converting touchedInput 0xC4)) = some (0x04A0, 6, true, false) := by
  decide +kernel
-- R140, R165: 4095/4 truncates to 1023 = 0x3FF.
theorem test_ch4_dfr : written (exec (decode .standard 0xC0) (converting touchedInput 0xC0)) = some (0x3FF0, 6, true, false) := by
  decide +kernel
-- V-CV1, S5.
theorem test_ch5_ser : written (exec (decode .standard 0xD4) (converting touchedInput 0xD4)) = some (0x8220, 6, true, false) := by
  decide +kernel
-- V-CV17.
theorem test_ch5_dfr : written (exec (decode .standard 0xD2) (converting dormantInput 0xD2)) = some (0x0000, 6, true, false) := by
  decide +kernel
-- R143, R166: the code of the USB peripheral.
theorem test_ch6_ser : written (exec (decode .standard 0xE4) (converting touchedInput 0xE4)) = some (0xA040, 6, true, true) := by
  decide +kernel
theorem test_ch6_dfr : written (exec (decode .standard 0xEB) (converting touchedInput 0xEB)) = some (0x1600, 2, false, false) := by
  decide +kernel
theorem test_ch7_ser : written (exec (decode .standard 0xF5) (converting touchedInput 0xF5)) = some (0x0700, 6, false, false) := by
  decide +kernel
theorem test_ch7_dfr : written (exec (decode .standard 0xF0) (converting dormantInput 0xF0)) = some (0x17F0, 6, true, false) := by
  decide +kernel

-- V-PD2, the override on channels 0 and 7 untouched and on channel 3 touched.
theorem test_pd2_codes : pd2Code 0 false = 0xFFF ∧ pd2Code 7 false = 0xFFF ∧ pd2Code 3 false = 0x000 ∧
    pd2Code 5 false = 0x000 ∧ pd2Code 3 true = 0xFFF := by decide
-- V-CV4: x = 1/3 is 4417/3, 0x5C0 truncated.
theorem test_interpolation_one_third :
    (conversionCode ⟨false, false, 5, 0⟩ Config.atReset { touchedInput with x := 1 / 3 }).toOption = some 0x5C0 := by
  decide +kernel
-- V-IN1 to V-IN3.
theorem test_out_of_range_refused :
    refusal (exec (decode .standard 0xD4) (converting { touchedInput with x := 3 / 2 } 0xD4)) = some .inputOutOfRange := by
  decide +kernel
theorem test_out_of_range_unread :
    written (exec (decode .standard 0x80) (converting { touchedInput with x := -1 } 0x80)) = some (0xFFF0, 6, true, true) ∧
    written (exec (decode .standard 0xD6) (converting { touchedInput with x := 2 } 0xD6)) = some (0xFFF0, 6, true, false) := by
  decide +kernel
-- R171: refused before any conversion, PD = 2 among them.
theorem test_ill_formed_config_refused :
    refusal (exec (decode .standard 0x86) { converting touchedInput 0x86 with cfg := withEntry 10 (.const 0) })
      = some .illFormedConfig := by decide +kernel

/-! ## One clock (95_test_vectors.md 2.2) -/

-- V-X2: a deselected clock answers 1 although osr[15] = 0.
theorem test_deselected_clock :
    elements (exchangeBit false (mk labConfig touchedInput true 5 0xD4 0x0000 true false))
      = some ⟨true, 5, 0xD4, 0x0000, true, false⟩ ∧
    lastDout (exchangeBit false (mk labConfig touchedInput true 5 0xD4 0x0000 true false)) = some true := by decide
-- V-X3.
theorem test_idle_bit : elements (exchangeBit false (mk labConfig touchedInput false 0 0x00 0x8000 true false))
    = some ⟨false, 0, 0x00, 0x0000, true, false⟩ := by decide
-- V-X5.
theorem test_start_bit_from_one :
    elements (exchangeBit true (mk labConfig touchedInput false 1 0x00 0x4000 true false))
      = some ⟨false, 15, 0x01, 0x8000, true, false⟩ := by decide
-- V-X7, V-X8, V-X9: the first and the last accumulation, and the truncation to 8 bits.
theorem test_accumulation :
    elements (exchangeBit true (mk labConfig touchedInput false 15 0x01 0x0000 true false))
      = some ⟨false, 14, 0x03, 0x0000, true, false⟩ ∧
    elements (exchangeBit false (mk labConfig touchedInput false 9 0x6A 0x0000 true false))
      = some ⟨false, 8, 0xD4, 0x0000, true, false⟩ ∧
    elements (exchangeBit true (mk labConfig touchedInput false 9 0xFF 0x0000 true false))
      = some ⟨false, 8, 0xFF, 0x0000, true, false⟩ := by decide
-- V-X10.
theorem test_busy_clock : elements (exchangeBit true (mk labConfig touchedInput false 8 0xD4 0x0001 true false))
    = some ⟨false, 7, 0xD4, 0x0002, true, false⟩ := by decide
-- V-X11.
theorem test_conversion_clock :
    elements (exchangeBit false (mk Config.atReset dormantInput false 7 0xD4 0x1234 false false))
      = some ⟨false, 6, 0xD4, 0x7F60, true, false⟩ ∧
    lastDout (exchangeBit false (mk Config.atReset dormantInput false 7 0xD4 0x1234 false false)) = some false := by
  decide +kernel
-- V-X12.
theorem test_eight_bit_conversion_clock :
    elements (exchangeBit true (mk Config.atReset touchedInput false 7 0xDC 0xFFFF true false))
      = some ⟨false, 2, 0xDC, 0x0400, true, false⟩ ∧
    lastDout (exchangeBit true (mk Config.atReset touchedInput false 7 0xDC 0xFFFF true false)) = some true := by
  decide +kernel
-- V-X13, V-X15: a 1 is ignored at countdown 2 and re-arms at countdown 0, in the middle of the response.
theorem test_ignored_then_rearm :
    elements (exchangeBit true (mk labConfig touchedInput false 3 0xD4 0x8000 true false))
      = some ⟨false, 2, 0xD4, 0x0000, true, false⟩ ∧
    elements (exchangeBit true (mk labConfig touchedInput false 1 0xDC 0x0800 true false))
      = some ⟨false, 15, 0x01, 0x1000, true, false⟩ := by decide

/-! ## Chip select, hard reset, interrupt and image (95_test_vectors.md 2.1, 2.6, 2.7, 2.8) -/

-- V-CS1, V-CS3, V-CS4.
theorem test_assertion_edge : elements (perform sel (mk labConfig touchedInput true 9 0xD4 0x1234 false false))
    = some ⟨false, 0, 0x00, 0x0000, true, true⟩ := by decide
theorem test_deassertion : elements (perform desel (mk labConfig touchedInput false 3 0xD4 0x2200 true false))
    = some ⟨true, 3, 0xD4, 0x2200, true, false⟩ := by decide
theorem test_same_level : elements (perform sel (mk labConfig touchedInput false 3 0xD4 0x2200 true false))
    = some ⟨false, 3, 0xD4, 0x2200, true, false⟩ := by decide
-- R104: the source's argument is the logical selection.
theorem test_select_active : (selectActive true (mk labConfig touchedInput true 3 0xD4 0x2200 true false)).csN = false ∧
    (selectActive false (mk labConfig touchedInput false 3 0xD4 0x2200 true false)).csN = true := by decide
-- V-RS2: still deselected.
theorem test_hard_reset : elements (perform .hardReset (mk labConfig touchedInput true 9 0xB6 0x1234 false false))
    = some ⟨true, 0, 0x00, 0x0000, true, true⟩ := by decide
-- V-IQ1 to V-IQ5.
theorem test_publish_levels :
    penIrqLevel true true 0 [1, 3, 4, 5] = true ∧ penIrqLevel true true 7 [1, 3, 4, 5] = true ∧
    penIrqLevel true true 4 [1, 3, 4, 5] = false ∧ penIrqLevel false true 0 [1, 3, 4, 5] = false ∧
    penIrqLevel true false 0 [1, 3, 4, 5] = false := by decide
-- V-IQ8: the level is stale until the refresh.
theorem test_level_is_stale_until_refresh :
    (match performAll [sel, .getPenIrq, .input touchedInput, .getPenIrq, .refreshPenIrq, .getPenIrq]
        (State.powerOn Config.atReset dormantInput) with
      | .next t => t.out.irq
      | _ => []) = [false, false, true] := by decide
-- V-IM3, V-IM4.
theorem test_saved_images :
    imageOf (mk labConfig touchedInput false 5 0xD4 0x0880 true false) = [0x01, 0x05, 0xD4, 0x08, 0x80, 0x00] ∧
    imageOf (mk labConfig touchedInput true 3 0xD4 0x2200 true false) = [0x01, 0x03, 0xD4, 0x22, 0x00, 0x01] := by decide
-- V-IM8: no chip-select reset runs.
theorem test_load_deselects :
    elements (perform (.load [0x01, 0x00, 0x80, 0x00, 0x00, 0x01]) (mk labConfig touchedInput false 9 0xD4 0x1234 false false))
      = some ⟨true, 0, 0x80, 0x0000, true, true⟩ := by decide
-- V-IM13: a seventh byte is ignored.
theorem test_load_longer_buffer :
    elements (perform (.load [0x01, 0x0F, 0x01, 0x00, 0x00, 0x00, 0xAA]) (mk labConfig touchedInput true 0 0 0 false false))
      = some ⟨false, 15, 0x01, 0x0000, true, true⟩ := by decide
-- V-IM9, V-IM11.
theorem test_load_refusals :
    refusal (perform (.load [0x01, 0x08, 0xD4, 0x00, 0x00]) State.reset) = some .shortImage ∧
    refusal (perform (.load [0x01, 0x10, 0xD4, 0x00, 0x00, 0x00]) State.reset) = some .invalidImage := by decide
-- R82, R83: the encoding of `SEL; CMD 0xD4; READ8`.
theorem test_script_encoding :
    dinBits ([sel] ++ cmd 0xD4 ++ read8) = bitsMsbFirst 0xD400#16 ∧ csLevels ([sel] ++ cmd 0xD4 ++ [desel]) = [false, true] ∧
    xw 0xD400 = cmd 0xD4 ++ read8 ∧ ofBitsMsbFirst (dinBits (xb 0xD4)) = 0xD4 := by decide

/-! ## The hypotheses of every obligation are met -/

theorem witness_DecodeInvertsEncode : Layout.standard.isPermutation = true ∧ otherLayout.isPermutation = true := by decide

theorem witness_EncodeInvertsDecode : Layout.standard.isPermutation = true ∧ otherLayout.isPermutation = true := by decide

-- Both clauses on the level at power-on.
theorem witness_PowerOnLeavesTheResetValues :
    0 ∉ labConfig.touchChannels ∧ 0 ∈ ({ labConfig with touchChannels := [0, 1, 3, 5] } : Config).touchChannels ∧
    (State.powerOn labConfig touchedInput).penIrq = true ∧
    (State.powerOn { labConfig with touchChannels := [0, 1, 3, 5] } touchedInput).penIrq = false := by decide

theorem witness_EveryReadyCommandCompletes : State.reset.ready = true ∧ (converting touchedInput 0xD4).ready = true := by
  decide +kernel

theorem witness_SingleEndedRowsConvertTheirOwnEntry :
    configOk labConfig = true ∧ (0 : PowerSave) ≠ 2 ∧
    (entryCode labConfig touchedInput (channelTable labConfig false 0 true)).toOption = some 0x002 ∧
    (entryCode labConfig touchedInput (channelTable labConfig false 1 true)).toOption = some 0xB80 ∧
    (entryCode labConfig touchedInput (channelTable labConfig false 2 true)).toOption = some 0x026 ∧
    (entryCode labConfig touchedInput (channelTable labConfig false 3 true)).toOption = some 0x600 ∧
    (entryCode labConfig touchedInput (channelTable labConfig false 4 true)).toOption = some 0x04A ∧
    (entryCode labConfig touchedInput (channelTable labConfig false 5 true)).toOption = some 0x822 ∧
    (entryCode labConfig touchedInput (channelTable labConfig false 6 true)).toOption = some 0xA04 ∧
    (entryCode labConfig touchedInput (channelTable labConfig false 7 true)).toOption = some 0x070 := by decide +kernel

theorem witness_DifferentialRowsConvertTheirOwnEntry :
    configOk labConfig = true ∧ (3 : PowerSave) ≠ 2 ∧
    (entryCode labConfig touchedInput (channelTable labConfig true 0 true)).toOption = some 0xFFF ∧
    (entryCode labConfig touchedInput (channelTable labConfig true 1 true)).toOption = some 0x114 ∧
    (entryCode labConfig touchedInput (channelTable labConfig true 2 true)).toOption = some 0x126 ∧
    (entryCode labConfig touchedInput (channelTable labConfig true 3 true)).toOption = some 0x138 ∧
    (entryCode labConfig touchedInput (channelTable labConfig true 4 true)).toOption = some 0x3FF ∧
    (entryCode labConfig touchedInput (channelTable labConfig true 5 true)).toOption = some 0x15C ∧
    (entryCode labConfig touchedInput (channelTable labConfig true 6 true)).toOption = some 0x16E ∧
    (entryCode labConfig touchedInput (channelTable labConfig true 7 true)).toOption = some 0x170 := by decide +kernel

theorem witness_PowerSaveTwoOverridesEveryRow :
    configOk (converting touchedInput 0xB6).cfg = true ∧ configOk (converting dormantInput 0xB6).cfg = true := by
  decide +kernel

theorem witness_PowerSaveFieldGovernsCodeAndEnable :
    (converting touchedInput 0xD6).ready = true ∧ (decode .standard 0xD6).pd = 2 ∧ (decode .standard 0xD7).pd ≠ 2 := by decide +kernel

theorem witness_Channel5DormantFixture :
    configOk State.reset.cfg = true ∧ (1 : PowerSave) ≠ 2 ∧ State.reset.inp.touched = false := by decide

theorem witness_Channel5LinearFixture :
    configOk Config.atReset = true ∧ (0 : PowerSave) ≠ 2 ∧ touchedInput.touched = true ∧ touchedInput.x = 1 / 2 ∧
    ({ touchedInput with x := 0 } : Snapshot).x = 0 ∧ ({ touchedInput with x := 1 } : Snapshot).x = 1 := by decide +kernel

theorem witness_Channel0DifferentialFixture : configOk State.reset.cfg = true := by decide

theorem witness_DormantTouchChannelsConvertAConstant :
    configOk labConfig = true ∧ (decode .standard 0x94).pd ≠ 2 ∧ dormantInput.touched = false ∧
    (decode .standard 0x94).fields.channel ∈ labConfig.touchChannels := by decide +kernel

theorem witness_OtherChannelsConvertAConstantOrThePort :
    configOk labConfig = true ∧ (decode .standard 0xE4).pd ≠ 2 ∧ (decode .standard 0xE4).fields.channel ∉ labConfig.touchChannels ∧
    (decode .standard 0xA4).pd ≠ 2 ∧ (decode .standard 0xA4).fields.channel ∉ labConfig.touchChannels := by decide +kernel

theorem witness_LinearEntriesInterpolateInRange :
    configOk labConfig = true ∧ (decode .standard 0x94).pd ≠ 2 ∧
    channelTable labConfig (decode .standard 0x94).fields.differential (decode .standard 0x94).fields.channel true
      = .linear .y 0 1 0xF00 0x100 ∧
    0 ≤ coordinate { touchedInput with y := 0 } .y ∧ coordinate { touchedInput with y := 0 } .y ≤ 1 ∧
    0 ≤ coordinate { touchedInput with y := 1 } .y ∧ coordinate { touchedInput with y := 1 } .y ≤ 1 := by decide +kernel

theorem witness_InterpAnswersFloorOrCeiling : (0 : Rat) ≤ 4417 / 3 ∧ interpolate .truncate (4417 / 3) = 1472 := by
  decide +kernel

-- Both refusals occur, and x = 1 is not refused.
theorem witness_CommandsStopExactlyWhereTheSpecRefuses :
    refusal (exec (.convCh5Ser true false 0) (converting { touchedInput with x := 1001 / 1000 } 0xD4))
      = some .inputOutOfRange ∧
    refusal (exec (.convCh5Ser true false 0) { State.reset with cfg := withEntry 10 (.const 0) })
      = some .illFormedConfig ∧
    refusal (exec (.convCh5Ser true false 0) (converting { touchedInput with x := 1 } 0xD4)) = none := by decide +kernel

theorem witness_ModeBitSelectsTheResponse :
    (converting touchedInput 0xD4).ready = true ∧ (converting touchedInput 0xD4).cd = 6 ∧
    (decode .standard 0xD4).mode8 = false ∧ (decode .standard 0xDC).mode8 = true := by decide +kernel

theorem witness_EightBitModeTruncatesItsTwin :
    (decode .standard 0x88).fields = { (decode .standard 0x80).fields with mode8 := true } ∧ (decode .standard 0x80).mode8 = false ∧
    ∃ t, exec (decode .standard 0x80) (converting touchedInput 0x80) = .next t :=
  ⟨by decide, by decide, exists_next (by decide +kernel)⟩

theorem witness_TouchRowsSuppressTheLevel :
    (converting touchedInput 0xD4).ready = true ∧ (converting touchedInput 0xD4).cfg.touchChannels = [1, 3, 4, 5] ∧
    (converting touchedInput 0xD4).ctrl = encode labConfig.layout (.convCh5Ser true false 0) ∧
    (Instr.convCh5Ser true false 0).fields.channel ∈ [(1 : Channel), 3, 4, 5] ∧
    (converting touchedInput 0x84).ready = true ∧ (converting touchedInput 0x84).cfg.touchChannels = [1, 3, 4, 5] ∧
    (converting touchedInput 0x84).ctrl = encode labConfig.layout (.convCh0Ser true false 0) ∧
    (Instr.convCh0Ser true false 0).fields.channel ∉ [(1 : Channel), 3, 4, 5] := by decide +kernel

/-- A selected block before its conversion clock, with two operations pending. -/
def beforeConversion : State := { mk labConfig touchedInput false 7 0xD4 0 true false with script := [.exchangeBit true, desel] }

theorem witness_StepRunsTheDecodedCommand :
    beforeConversion.script = .exchangeBit true :: [desel] ∧ beforeConversion.csN = false ∧ beforeConversion.cd = 7 ∧
    decode beforeConversion.cfg.layout beforeConversion.ctrl = .convCh5Ser true false 0 := by decide

theorem witness_ReadyConversionClockCompletes :
    beforeConversion.script = .exchangeBit true :: [desel] ∧ beforeConversion.csN = false ∧ beforeConversion.cd = 7 ∧
    beforeConversion.ready = true := by decide +kernel

theorem witness_FetchWordRunsItsCommand :
    State.reset.cfg.layout.isPermutation = true ∧ State.reset.cfg.layout = .standard ∧
    decodeTableWord 8 0xD4 = some (.convCh5Ser true false 0) ∧
    elements (step (State.reset.withFetchWord 8 0xD4)) = some ⟨false, 6, 0xD4, 0x7F60, true, false⟩ := by decide

-- The countdowns of the clauses at the ends of their ranges.
theorem witness_ClockFollowsTheEngineSteps :
    State.reset.csN = true ∧ (mk labConfig touchedInput false 1 0 0 true false).csN = false ∧
    (9 ≤ (9 : Countdown).toNat ∧ 9 ≤ (15 : Countdown).toNat) ∧
    (2 ≤ (2 : Countdown).toNat ∧ (2 : Countdown).toNat ≤ 6) ∧ (2 ≤ (6 : Countdown).toNat ∧ (6 : Countdown).toNat ≤ 6) ∧
    ∀ c : Countdown, (c = 0 ∨ c = 1) ∨ 9 ≤ c.toNat ∨ c = 7 ∨ (c = 8 ∨ (2 ≤ c.toNat ∧ c.toNat ≤ 6)) := by decide

theorem witness_IdleLineAnswersOnesAndChangesNothing : State.reset.csN = true := by decide

theorem witness_StartBitReArmsTheEngine :
    (mk labConfig touchedInput false 0 0x55 0x8000 true false).csN = false ∧
    (mk labConfig touchedInput false 0 0x55 0x8000 true false).cd = 0 ∧
    (mk labConfig touchedInput false 1 0x55 0x8000 true false).cd = 1 := by decide

theorem witness_ConversionExactlyAtCountdownSix :
    beforeConversion.csN = false ∧ beforeConversion.cd = 7 ∧ (converting touchedInput 0xD4).csN = false ∧
    (converting touchedInput 0xD4).cd ≠ 7 := by decide

theorem witness_IgnoredBitsAreStoredNowhere :
    (mk labConfig touchedInput false 2 0xD4 0 true false).csN = false ∧
    2 ≤ (2 : Countdown).toNat ∧ (8 : Countdown).toNat ≤ 8 ∧
    elements (exchangeBit true (mk labConfig touchedInput false 2 0xD4 0x4000 true false))
      = some ⟨false, 1, 0xD4, 0x8000, true, false⟩ := by decide

theorem witness_FramedByteAccumulatesMsbFirst :
    (mk labConfig touchedInput false 0 0 0 true false).csN = false ∧ (mk labConfig touchedInput false 0 0 0 true false).cd = 0 ∧
    (mk labConfig touchedInput false 1 0 0 true false).cd = 1 ∧ (0xD4 : Byte).getLsbD 7 = true := by decide

/-- A ready selected block at a start-bit clock. -/
def ready12 : State := mk labConfig touchedInput false 1 0x00 0x1234 true false

theorem witness_CountdownIsAFunctionOfTheClock :
    ready12.ready = true ∧ ready12.csN = false ∧ ready12.cd = 1 ∧ (0xD4 : Byte).getLsbD 7 = true ∧
    (decodeFields labConfig.layout 0xD4).mode8 = false ∧ (List.replicate 7 true).length ≤ 7 ∧
    (0xDC : Byte).getLsbD 7 = true ∧ (decodeFields labConfig.layout 0xDC).mode8 = true ∧ (List.replicate 3 true).length ≤ 3 := by
  decide +kernel

theorem witness_TwelveBitFrameAnswersTheCode :
    ready12.ready = true ∧ ready12.csN = false ∧ ready12.cd = 1 ∧ (0xD4 : Byte).getLsbD 7 = true ∧
    (decodeFields labConfig.layout 0xD4).mode8 = false ∧ (List.replicate 7 true).length = 7 := by decide +kernel

theorem witness_EightBitFrameAnswersTheHighBits :
    ready12.ready = true ∧ ready12.csN = false ∧ ready12.cd = 1 ∧ (0xDC : Byte).getLsbD 7 = true ∧
    (decodeFields labConfig.layout 0xDC).mode8 = true ∧ (List.replicate 3 true).length = 3 := by decide +kernel

theorem witness_OverlappedFramesAnswerBothCodes :
    ready12.ready = true ∧ ready12.csN = false ∧ ready12.cd = 1 ∧ (0xD4 : Byte).getLsbD 7 = true ∧
    (decodeFields labConfig.layout 0xD4).mode8 = false ∧ (0x80 : Byte).getLsbD 7 = true ∧ (decodeFields labConfig.layout 0x80).mode8 = false ∧
    (List.replicate 7 false).length = 7 := by decide +kernel

theorem witness_AssertionEdgeRunsTheResetSequence : State.reset.csN = true := by decide

theorem witness_LevelChangesOnlyAtPublishEvents :
    ∃ t, step { State.powerOn labConfig dormantInput with inp := touchedInput, script := [.refreshPenIrq] } = .next t ∧
      t.penIrq ≠ (State.powerOn labConfig dormantInput).penIrq :=
  ⟨_, rfl, by decide⟩

-- Each of the elements changes under some operation that is no `load`.
theorem witness_ElementsChangeOnlyByTheirWriters :
    (∀ img, sel ≠ .load img) ∧ (∀ img, BusOp.exchangeBit true ≠ .load img) ∧
    (∃ t, perform sel State.reset = .next t ∧ t.csN ≠ State.reset.csN) ∧
    (∃ t, perform (.exchangeBit true) ready12 = .next t ∧ t.cd ≠ ready12.cd ∧ t.osr ≠ ready12.osr ∧
      t.ctrl ≠ ready12.ctrl) ∧
    beforeConversion.penEn = true ∧
    elements (perform (.exchangeBit true) { beforeConversion with ctrl := 0x81 })
      = some ⟨false, 6, 0x81, 0xFFE0, false, false⟩ :=
  ⟨(fun _ h => by cases h), (fun _ h => by cases h), ⟨_, rfl, by decide⟩, ⟨_, rfl, by decide, by decide, by decide⟩,
    rfl, by decide +kernel⟩

theorem witness_LoadWritesTheFields :
    (0x01 : Byte).toNat ≤ 1 ∧ (0x0F : Byte).toNat ≤ 15 ∧ (0x00 : Byte).toNat ≤ 1 := by decide

-- The clauses of `LoadRefusesExactlyBadImages` at the ends of their ranges.
theorem witness_LoadRefusesExactlyBadImages :
    refusal (perform (.load [0, 0, 0, 0, 0]) State.reset) = some .shortImage ∧
    refusal (perform (.load [2, 0, 0, 0, 0, 0]) State.reset) = some .invalidImage ∧
    refusal (perform (.load [0, 16, 0, 0, 0, 0]) State.reset) = some .invalidImage ∧
    refusal (perform (.load [0, 0, 0, 0, 0, 2]) State.reset) = some .invalidImage ∧
    refusal (perform (.load [1, 15, 0, 0, 0, 1]) State.reset) = none := by decide

-- Two states that differ in what the image leaves out, and two that agree in the level too.
theorem witness_SavedFieldsDetermineTheFuture :
    sameSaved ready12 { ready12 with penIrq := true, script := [desel] } ∧ sameBlock ready12 { ready12 with script := [desel] } ∧
    ∃ t, performAll (cmd 0x80 ++ [.getPenIrq]) ready12 = .next t :=
  ⟨⟨rfl, rfl, rfl, rfl, rfl⟩, ⟨⟨rfl, rfl, rfl, rfl, rfl⟩, rfl⟩, _, rfl⟩

theorem witness_EveryStepKeepsTheLevelUnderItsEnable :
    beforeConversion.levelEnabled = true ∧ ∃ t, step beforeConversion = .next t :=
  ⟨by decide, exists_next (by decide +kernel)⟩

theorem witness_EveryStepButLoadKeepsTheFraming :
    beforeConversion.framed = true ∧ beforeConversion.lowBitsClear = true ∧
    (∀ img rest, beforeConversion.script ≠ .load img :: rest) ∧
    ∃ t, step beforeConversion = .next t :=
  ⟨by decide, by decide, (fun _ _ h => by cases h), exists_next (by decide +kernel)⟩

theorem witness_ReadyRunsNeverStop :
    ready12.ready = true ∧
    ∀ op ∈ [BusOp.load [1, 15, 0, 0, 0, 1], .input { touchedInput with x := 1, y := 0 }, sel, .exchangeBit true],
      op.allowed = true := by decide +kernel

theorem witness_IdleBusChangesNothing : State.reset.script = [] := by decide

theorem witness_InputsAreReadOnlyAtTheConversion :
    sameButInput ready12 { ready12 with inp := dormantInput } ∧ ¬ (ready12.csN = false ∧ ready12.cd = 7) :=
  ⟨rfl, by decide⟩

theorem witness_InputsAreNeverWrittenByTheBlock :
    (∀ i, BusOp.hardReset ≠ .input i) ∧ ∃ t, perform .hardReset ready12 = .next t :=
  ⟨(fun _ h => by cases h), _, rfl⟩

end Sys2Proof.Tests
end

section
/-! The control byte as a list of placed bits: where each bit of a command stands under a layout. Both round trips of the
encoding (30_encoding.md R71, R73, R75) are read off this list: under a permutation its positions are different, so a bit
can be read back, and they are all eight positions, so no bit is dropped. -/

namespace Sys2Proof

/-- The eight bits of a control byte, each with the position `encodeFields` gives it: the start bit, then the field bits in
the order of `Layout.positions`. -/
def placedBits (l : Layout) (start : Bool) (f : Fields) : List (Nat × Bool) :=
  [(7, start), (l.a2.val, f.channel.getLsbD 2), (l.a1.val, f.channel.getLsbD 1), (l.a0.val, f.channel.getLsbD 0),
    (l.mode.val, f.mode8), (l.ser.val, !f.differential), (l.pd1.val, f.powerSave.getLsbD 1),
    (l.pd0.val, f.powerSave.getLsbD 0)]

/-- The positions of the placed bits are bit 7 and the layout's positions. -/
theorem placedBits_positions (l : Layout) (start : Bool) (f : Fields) :
    (placedBits l start f).map Prod.fst = 7 :: l.positions.map Fin.val := rfl

/-- A bit of the control byte is the disjunction of the bits placed there. -/
theorem getLsbD_encodeFields (l : Layout) (start : Bool) (f : Fields) (k : Nat) :
    (encodeFields l start f).getLsbD k =
      (decide (k < 8) && (placedBits l start f).any fun b => decide (k = b.1) && b.2) := by
  by_cases hk : k < 8
  · simp only [encodeFields, BitVec.getLsbD_or, getLsbD_bitAt, placedBits, hk, decide_true, Bool.true_and, List.any_cons,
      List.any_nil, Bool.or_false, Bool.or_assoc]
  · simp [hk, BitVec.getLsbD_of_ge _ k (Nat.le_of_not_lt hk)]

/-- A bit of the control byte is 1 exactly where a placed bit 1 stands. -/
theorem getLsbD_encodeFields_eq_true (l : Layout) (start : Bool) (f : Fields) (k : Nat) :
    (encodeFields l start f).getLsbD k = true ↔ k < 8 ∧ (k, true) ∈ placedBits l start f := by
  simp [getLsbD_encodeFields]

/-- Under a permutation no two placed bits share a position: the start bit stands above every field bit. -/
theorem placedBits_nodup {l : Layout} (hl : l.isPermutation = true) (start : Bool) (f : Fields) :
    ((placedBits l start f).map Prod.fst).Nodup := by
  have hfields : (l.positions.map Fin.val).Nodup := (of_decide_eq_true hl).map Fin.val_injective
  have hstart : 7 ∉ l.positions.map Fin.val := by
    simp only [List.mem_map, not_exists, not_and]
    exact fun p _ => Nat.ne_of_lt p.isLt
  rw [placedBits_positions]
  exact hfields.cons hstart

/-- Placed bits stand below position 8. -/
theorem lt_of_mem_placedBits {l : Layout} {start : Bool} {f : Fields} {k : Nat} {v : Bool}
    (h : (k, v) ∈ placedBits l start f) : k < 8 := by
  have hk : k ∈ 7 :: l.positions.map Fin.val := placedBits_positions l start f ▸ List.mem_map_of_mem h
  obtain rfl | hk := List.mem_cons.mp hk
  · omega
  · obtain ⟨p, -, rfl⟩ := List.mem_map.mp hk
    omega

/-- Under a permutation the control byte holds each placed bit at its position. -/
theorem getLsbD_encodeFields_of_mem {l : Layout} (hl : l.isPermutation = true) {start : Bool} {f : Fields} {k : Nat}
    {v : Bool} (h : (k, v) ∈ placedBits l start f) : (encodeFields l start f).getLsbD k = v := by
  have hk : k < 8 := lt_of_mem_placedBits h
  cases v with
  | true => exact (getLsbD_encodeFields_eq_true ..).mpr ⟨hk, h⟩
  | false =>
    refine Bool.eq_false_iff.mpr fun hset => ?_
    obtain ⟨-, htrue⟩ := (getLsbD_encodeFields_eq_true ..).mp hset
    have hsame := List.inj_on_of_nodup_map (placedBits_nodup hl start f) htrue h rfl
    exact absurd hsame (by simp)

/-- Seven different positions below 7 are all of them. -/
theorem mem_positions {l : Layout} (hl : l.isPermutation = true) (p : Fin 7) : p ∈ l.positions := by
  have hcard : l.positions.toFinset.card = Fintype.card (Fin 7) :=
    List.toFinset_card_of_nodup (of_decide_eq_true hl)
  exact List.mem_toFinset.mp (Finset.card_eq_iff_eq_univ _ |>.mp hcard ▸ Finset.mem_univ p)

/-- Under a permutation a bit is placed at every position of the byte. -/
theorem exists_mem_placedBits {l : Layout} (hl : l.isPermutation = true) (start : Bool) (f : Fields) {k : Nat}
    (hk : k < 8) : ∃ v, (k, v) ∈ placedBits l start f := by
  have hmem : k ∈ (placedBits l start f).map Prod.fst := by
    rw [placedBits_positions, List.mem_cons]
    by_cases h7 : k = 7
    · exact .inl h7
    · exact .inr (List.mem_map.mpr ⟨⟨k, by omega⟩, mem_positions hl _, rfl⟩)
  obtain ⟨⟨_, v⟩, hv, rfl⟩ := List.mem_map.mp hmem
  exact ⟨v, hv⟩

/-- Three bits joined, the high one first, are the vector they were taken from. -/
theorem ofBool_append_getLsbD_three (c : BitVec 3) :
    BitVec.ofBool (c.getLsbD 2) ++ BitVec.ofBool (c.getLsbD 1) ++ BitVec.ofBool (c.getLsbD 0) = c := by
  revert c; decide

/-- Two bits joined, the high one first, are the vector they were taken from. -/
theorem ofBool_append_getLsbD_two (p : BitVec 2) :
    BitVec.ofBool (p.getLsbD 1) ++ BitVec.ofBool (p.getLsbD 0) = p := by
  revert p; decide

/-- The bits of three bits joined, the high one first. -/
theorem getLsbD_ofBool_append_three (a b c : Bool) :
    (BitVec.ofBool a ++ BitVec.ofBool b ++ BitVec.ofBool c).getLsbD 2 = a ∧
    (BitVec.ofBool a ++ BitVec.ofBool b ++ BitVec.ofBool c).getLsbD 1 = b ∧
    (BitVec.ofBool a ++ BitVec.ofBool b ++ BitVec.ofBool c).getLsbD 0 = c := by
  revert a b c; decide

/-- The bits of two bits joined, the high one first. -/
theorem getLsbD_ofBool_append_two (a b : Bool) :
    (BitVec.ofBool a ++ BitVec.ofBool b).getLsbD 1 = a ∧ (BitVec.ofBool a ++ BitVec.ofBool b).getLsbD 0 = b := by
  revert a b; decide

/-- The start bit of a control byte is read back at bit 7. -/
theorem getLsbD_seven_encodeFields {l : Layout} (hl : l.isPermutation = true) (start : Bool) (f : Fields) :
    (encodeFields l start f).getLsbD 7 = start :=
  getLsbD_encodeFields_of_mem hl (by simp [placedBits])

/-- The fields of a control byte are read back under the layout that placed them. -/
theorem decodeFields_encodeFields {l : Layout} (hl : l.isPermutation = true) (start : Bool) (f : Fields) :
    decodeFields l (encodeFields l start f) = f := by
  have bit {p : Fin 7} {v : Bool} (h : (p.val, v) ∈ placedBits l start f) :
      (encodeFields l start f).getLsbD p.val = v := getLsbD_encodeFields_of_mem hl h
  have hmode := bit (p := l.mode) (v := f.mode8) (by simp [placedBits])
  have hser := bit (p := l.ser) (v := !f.differential) (by simp [placedBits])
  have ha2 := bit (p := l.a2) (v := f.channel.getLsbD 2) (by simp [placedBits])
  have ha1 := bit (p := l.a1) (v := f.channel.getLsbD 1) (by simp [placedBits])
  have ha0 := bit (p := l.a0) (v := f.channel.getLsbD 0) (by simp [placedBits])
  have hpd1 := bit (p := l.pd1) (v := f.powerSave.getLsbD 1) (by simp [placedBits])
  have hpd0 := bit (p := l.pd0) (v := f.powerSave.getLsbD 0) (by simp [placedBits])
  simp only [decodeFields, hmode, hser, ha2, ha1, ha0, hpd1, hpd0, Bool.not_not, ofBool_append_getLsbD_three,
    ofBool_append_getLsbD_two]

/-- The bits placed for a decoded byte are that byte's own bits, whether or not the layout is a permutation. -/
theorem eq_getLsbD_of_mem_placedBits_decodeFields {l : Layout} {b : Byte} {k : Nat} {v : Bool}
    (h : (k, v) ∈ placedBits l (b.getLsbD 7) (decodeFields l b)) : v = b.getLsbD k := by
  simp only [placedBits, decodeFields, getLsbD_ofBool_append_three, getLsbD_ofBool_append_two, Bool.not_not, List.mem_cons,
    List.not_mem_nil, Prod.mk.injEq, or_false] at h
  rcases h with ⟨rfl, rfl⟩ | ⟨rfl, rfl⟩ | ⟨rfl, rfl⟩ | ⟨rfl, rfl⟩ | ⟨rfl, rfl⟩ | ⟨rfl, rfl⟩ | ⟨rfl, rfl⟩ | ⟨rfl, rfl⟩ <;> rfl

/-- Every byte is the control byte of its own start bit and fields. -/
theorem encodeFields_decodeFields {l : Layout} (hl : l.isPermutation = true) (b : Byte) :
    encodeFields l (b.getLsbD 7) (decodeFields l b) = b := by
  refine BitVec.eq_of_getLsbD_eq fun k hk => ?_
  obtain ⟨v, hv⟩ := exists_mem_placedBits hl (b.getLsbD 7) (decodeFields l b) hk
  calc (encodeFields l (b.getLsbD 7) (decodeFields l b)).getLsbD k
      = v := getLsbD_encodeFields_of_mem hl hv
    _ = b.getLsbD k := eq_getLsbD_of_mem_placedBits_decodeFields hv

/-- Settles O1: the start bit and the fields are read back, and they determine the command. -/
theorem decodeInvertsEncode : Obligations.DecodeInvertsEncode := by
  intro l i hl
  rw [decode, encode, getLsbD_seven_encodeFields hl, decodeFields_encodeFields hl, commandOf_start_fields]

/-- Settles O2: the command of a byte has the byte's start bit and fields, and every bit of the byte is one of them. -/
theorem encodeInvertsDecode : Obligations.EncodeInvertsDecode := by
  intro l b hl
  rw [encode, start_decode, fields_decode, encodeFields_decodeFields hl]

end Sys2Proof
end

section
/-! Who writes what (10_state.md R31, R34, R38): which countdowns lead a clock to each of its branches, what each operation
leaves unchanged, and from both the column of writers of R38 and the frame of the inputs and the configuration. -/

namespace Sys2Proof.Machine

/-! The countdown after step 1 of a clock, read off the countdown before it. -/

/-- A clock finds the countdown at 0, where a start bit is looked for, from the countdowns 0 and 1. -/
theorem tick_cd_eq_zero_iff (s : State) : (tick s).cd = 0 ↔ s.cd.toNat ≤ 1 := by
  rw [tick_cd]
  generalize s.cd = cd
  revert cd
  decide

/-- A clock accumulates from the countdowns 9 to 15. -/
theorem eight_le_tick_cd_iff (s : State) : (8 : Countdown) ≤ (tick s).cd ↔ 9 ≤ s.cd.toNat := by
  rw [tick_cd]
  generalize s.cd = cd
  revert cd
  decide

/-- The conversion clock is the clock from countdown 7. -/
theorem tick_cd_eq_six_iff (s : State) : (tick s).cd = 6 ↔ s.cd = 7 := by
  rw [tick_cd]
  generalize s.cd = cd
  revert cd
  decide

/-! One clock. -/

/-- A clock writes neither the line nor what the block is handed from outside. -/
theorem exchangeBit_frame {b : Bool} {s t : State} (h : exchangeBit b s = .next t) :
    t.csN = s.csN ∧ t.inp = s.inp ∧ t.cfg = s.cfg ∧ t.script = s.script := by
  obtain ⟨-, rfl⟩ | ⟨-, -, rfl⟩ | ⟨-, -, rfl⟩ | ⟨-, -, -, _, -, rfl⟩ | ⟨-, -, -, -, rfl⟩ := exchangeBit_next h <;> simp

/-- A clock changes `ctrl` only where a start bit or an accumulation stands. -/
theorem exchangeBit_writes_ctrl {b : Bool} {s t : State} (h : exchangeBit b s = .next t) (hne : t.ctrl ≠ s.ctrl) :
    s.cd.toNat ≤ 1 ∧ b = true ∨ 9 ≤ s.cd.toNat := by
  obtain ⟨-, rfl⟩ | ⟨-, h0, rfl⟩ | ⟨-, h8, rfl⟩ | ⟨-, -, -, _, -, rfl⟩ | ⟨-, -, -, -, rfl⟩ := exchangeBit_next h
  case inr.inl =>
    cases b with
    | true => exact .inl ⟨(tick_cd_eq_zero_iff s).mp h0, rfl⟩
    | false => simp at hne
  case inr.inr.inl => exact .inr ((eight_le_tick_cd_iff s).mp h8)
  all_goals simp at hne

/-- A clock changes `pen_en` only at the conversion clock. -/
theorem exchangeBit_writes_penEn {b : Bool} {s t : State} (h : exchangeBit b s = .next t) (hne : t.penEn ≠ s.penEn) :
    s.cd = 7 := by
  obtain ⟨-, rfl⟩ | ⟨-, -, rfl⟩ | ⟨-, -, rfl⟩ | ⟨-, h6, -, _, -, rfl⟩ | ⟨-, -, -, -, rfl⟩ := exchangeBit_next h
  case inr.inr.inr.inl => exact (tick_cd_eq_six_iff s).mp h6
  all_goals simp at hne

/-! The chip-select line and the image port. -/

/-- Away from the assertion edge a call only latches the level. -/
theorem setChipSelect_of_not_edge {level : Bool} {s : State} (h : ¬ (level = false ∧ s.csN = true)) :
    setChipSelect level s = { s with csN := level } :=
  if_neg fun hedge => h (by simpa [and_comm] using hedge)

/-- A load writes nothing of what the block is handed from outside. -/
theorem loadImage_frame {img : List Byte} {s t : State} (h : loadImage img s = .next t) :
    t.inp = s.inp ∧ t.cfg = s.cfg ∧ t.script = s.script := by
  obtain ⟨_, _, _, _, _, _, _, -, rfl⟩ := loadImage_next h
  simp

/-! One operation. -/

/-- Only a change of the chip-select level, and a load, write the line. -/
theorem perform_writes_csN {op : BusOp} {s t : State} (h : perform op s = .next t) (hload : ∀ img, op ≠ .load img)
    (hne : t.csN ≠ s.csN) : ∃ level, op = .setChipSelect level := by
  cases op with
  | setChipSelect level => exact ⟨level, rfl⟩
  | exchangeBit b => exact absurd (exchangeBit_frame h).left hne
  | load img => exact absurd rfl (hload img)
  | hardReset | refreshPenIrq | getPenIrq | size | save | input _ =>
    cases h
    simp at hne

/-- What an operation other than a load does to the engine's registers: it is a clock of the selected block, one of the two
events that run the reset sequence, or it leaves all four as they are. -/
theorem perform_engine_cases {op : BusOp} {s t : State} (h : perform op s = .next t) (hload : ∀ img, op ≠ .load img) :
    (∃ b, op = .exchangeBit b ∧ s.csN = false ∧ exchangeBit b s = .next t) ∨
    ((op = .setChipSelect false ∧ s.csN = true) ∨ op = .hardReset) ∨
    (t.cd = s.cd ∧ t.osr = s.osr ∧ t.ctrl = s.ctrl ∧ t.penEn = s.penEn) := by
  cases op with
  | setChipSelect level =>
    cases h
    by_cases hedge : level = false ∧ s.csN = true
    · obtain ⟨rfl, hcs⟩ := hedge
      exact .inr (.inl (.inl ⟨rfl, hcs⟩))
    · rw [setChipSelect_of_not_edge hedge]
      exact .inr (.inr ⟨rfl, rfl, rfl, rfl⟩)
  | exchangeBit b =>
    cases hcs : s.csN with
    | false => exact .inl ⟨b, rfl, rfl, h⟩
    | true =>
      obtain rfl : recordDout true s = t := by simpa [perform, exchangeBit, hcs] using h
      simp
  | hardReset => exact .inr (.inl (.inr rfl))
  | load img => exact absurd rfl (hload img)
  | refreshPenIrq | getPenIrq | size | save | input _ =>
    cases h
    simp

/-- Settles O43: the line by `perform_writes_csN`; the engine's registers are written by a selected clock, whose branches
say which of them, or by a reset. -/
theorem elementsChangeOnlyByTheirWriters : Obligations.ElementsChangeOnlyByTheirWriters := by
  intro op s t h hload
  refine ⟨perform_writes_csN h hload, ?_⟩
  obtain ⟨b, rfl, hcs, hclock⟩ | hreset | ⟨hcd, hosr, hctrl, hpen⟩ := perform_engine_cases h hload
  · exact ⟨fun _ => .inl ⟨b, rfl, hcs⟩, fun hne => .inl ⟨b, rfl, hcs, exchangeBit_writes_ctrl hclock hne⟩,
      fun hne => .inl ⟨b, rfl, hcs, exchangeBit_writes_penEn hclock hne⟩⟩
  · exact ⟨fun _ => .inr hreset, fun _ => .inr hreset, fun _ => .inr hreset⟩
  · exact ⟨fun hne => (hne.elim (· hcd) (· hosr)).elim, fun hne => absurd hctrl hne, fun hne => absurd hpen hne⟩

/-- Settles O58: `INPUT` is the update of the snapshot by definition, and each operation of the block keeps the three
fields by its own frame. -/
theorem inputsAreNeverWrittenByTheBlock : Obligations.InputsAreNeverWrittenByTheBlock := by
  refine ⟨fun _ _ => rfl, fun op s t hinput h => ?_⟩
  cases op with
  | exchangeBit b => exact (exchangeBit_frame h).right
  | load img => exact loadImage_frame h
  | input i => exact absurd rfl (hinput i)
  | setChipSelect _ | hardReset | refreshPenIrq | getPenIrq | size | save =>
    cases h
    simp

end Sys2Proof.Machine
end

section
/-! One selected clock as an equation in the countdown and the control byte before it (41_bit_engine.md R110): every
selected clock but the conversion clock is the model's `clocked`, at two values that depend on nothing else. -/

namespace Sys2Proof.Machine

/-- One bit shifted into the control byte (41_bit_engine.md R110, step 3). -/
def shiftIn (ctrl : Byte) (b : Bool) : Byte := (ctrl <<< 1) ||| (BitVec.ofBool b).setWidth 8

theorem getLsbD_shiftIn_zero (ctrl : Byte) (b : Bool) : (shiftIn ctrl b).getLsbD 0 = b := by
  simp [shiftIn]

theorem getLsbD_shiftIn_succ (ctrl : Byte) (b : Bool) (k : Nat) :
    (shiftIn ctrl b).getLsbD (k + 1) = (decide (k < 7) && ctrl.getLsbD k) := by
  have hk : k + 1 < 8 ↔ k < 7 := Nat.succ_lt_succ_iff
  simp [shiftIn, hk]

/-- The countdown a selected clock that is no conversion leaves. -/
def nextCountdown (b : Bool) (cd : Countdown) : Countdown :=
  if cd.toNat ≤ 1 then (if b then 15 else 0) else cd - 1

/-- The control byte a selected clock that is no conversion leaves. -/
def nextControlByte (b : Bool) (cd : Countdown) (ctrl : Byte) : Byte :=
  if cd.toNat ≤ 1 then (if b then 1 else ctrl) else if 9 ≤ cd.toNat then shiftIn ctrl b else ctrl

/-! The clock, by the countdown before it. -/

theorem tick_cd_of_two_le {s : State} (h : 2 ≤ s.cd.toNat) : (tick s).cd = s.cd - 1 := by
  rw [tick_cd, if_neg]
  simp only [beq_iff_eq]
  intro h0
  simp [h0] at h

theorem exchangeBit_deselected (b : Bool) {s : State} (hcs : s.csN = true) :
    exchangeBit b s = .next (recordDout true s) := by
  simp [exchangeBit, hcs]

/-- The conversion clock is the conversion `ctrl` stands for, then the output. -/
theorem exchangeBit_conversion (b : Bool) {s : State} (hcs : s.csN = false) (h7 : s.cd = 7) :
    exchangeBit b s = mapNext driveOut (convert (decodeFields s.cfg.layout s.ctrl) (tick s)) := by
  have h6 : (tick s).cd = 6 := (tick_cd_eq_six_iff s).mpr h7
  simp [exchangeBit, hcs, selectedClock, h6, conversionClock, exec_eq_convert, -tick_cd]

/-- Any other selected clock shifts the output and moves the countdown and the control byte. -/
theorem exchangeBit_clocked (b : Bool) {s : State} (hcs : s.csN = false) (h7 : s.cd ≠ 7) :
    exchangeBit b s = .next (clocked (nextCountdown b s.cd) (nextControlByte b s.cd s.ctrl) s) := by
  have h6 : (tick s).cd ≠ 6 := mt (tick_cd_eq_six_iff s).mp h7
  have hclock : exchangeBit b s = selectedClock b (tick s) := by simp [exchangeBit, hcs]
  rw [hclock, selectedClock, nextCountdown, nextControlByte]
  by_cases h1 : s.cd.toNat ≤ 1
  · have h0 : (tick s).cd = 0 := (tick_cd_eq_zero_iff s).mpr h1
    rw [if_pos (beq_iff_eq.mpr h0), if_pos h1, if_pos h1, ← h0]
    cases b <;> rfl
  · have h0 : (tick s).cd ≠ 0 := mt (tick_cd_eq_zero_iff s).mp h1
    rw [if_neg (mt beq_iff_eq.mp h0), if_neg h1, if_neg h1, ← tick_cd_of_two_le (by omega)]
    by_cases h9 : 9 ≤ s.cd.toNat
    · rw [if_pos ((eight_le_tick_cd_iff s).mpr h9), if_pos h9]
      rfl
    · rw [if_neg (mt (eight_le_tick_cd_iff s).mp h9), if_neg (mt beq_iff_eq.mp h6), if_neg h9]
      rfl

theorem exchangeBit_start {s : State} (hcs : s.csN = false) (h1 : s.cd.toNat ≤ 1) :
    exchangeBit true s = .next (clocked 15 1 s) := by
  have h7 : s.cd ≠ 7 := fun h => by simp [h] at h1
  rw [exchangeBit_clocked true hcs h7, nextCountdown, nextControlByte, if_pos h1, if_pos h1]
  rfl

theorem exchangeBit_accumulate (b : Bool) {s : State} (hcs : s.csN = false) (h9 : 9 ≤ s.cd.toNat) :
    exchangeBit b s = .next (clocked (s.cd - 1) (shiftIn s.ctrl b) s) := by
  have h7 : s.cd ≠ 7 := fun h => by simp [h] at h9
  have h1 : ¬ s.cd.toNat ≤ 1 := by omega
  rw [exchangeBit_clocked b hcs h7, nextCountdown, nextControlByte, if_neg h1, if_neg h1, if_pos h9]

end Sys2Proof.Machine
end

section
/-! The framing of the engine's registers is an invariant of every step but a load: the start bit of the control byte
stands where the countdown says (20_memory.md R52), and the low four bits of `osr` are clear (43_channel_mapper.md R172). -/

namespace Sys2Proof.Machine

/-! The framing of the countdown and the control byte. -/

theorem framedAt_accumulating {cd : Countdown} {ctrl : Byte} (h : 8 ≤ cd.toNat) :
    framedAt cd ctrl = true ↔ ctrl >>> (15 - cd.toNat) = 1 := by
  rw [framedAt, if_pos (by rwa [BitVec.le_def]), beq_iff_eq]

theorem framedAt_complete {cd : Countdown} {ctrl : Byte} (h : cd.toNat < 8) :
    framedAt cd ctrl = true ↔ ctrl.getLsbD 7 = true ∨ cd = 0 ∧ ctrl = 0 := by
  rw [framedAt, if_neg (by rw [BitVec.le_def]; exact Nat.not_le.mpr h)]
  simp

/-- From the last accumulating clock to the last clock of a frame the start bit stands at bit 7. -/
theorem getLsbD_seven_of_framedAt {cd : Countdown} {ctrl : Byte} (h : framedAt cd ctrl = true) (h1 : 1 ≤ cd.toNat)
    (h8 : cd.toNat ≤ 8) : ctrl.getLsbD 7 = true := by
  obtain hlt | heq := Nat.lt_or_eq_of_le h8
  · obtain hbit | ⟨h0, -⟩ := (framedAt_complete hlt).mp h
    · exact hbit
    · simp [h0] at h1
  · have hshift : ctrl >>> (15 - cd.toNat) = 1 := (framedAt_accumulating heq.ge).mp h
    calc ctrl.getLsbD 7 = (ctrl >>> (15 - cd.toNat)).getLsbD 0 := by simp [heq]
      _ = true := by rw [hshift]; rfl

/-- Shifting a bit in moves the highest 1 up by one, while it stands below bit 7. -/
theorem shiftIn_ushiftRight_succ {ctrl : Byte} {n : Nat} (hn : n ≤ 6) (h : ctrl >>> n = 1) (b : Bool) :
    shiftIn ctrl b >>> (n + 1) = 1 := by
  have hbit (i : Nat) : ctrl.getLsbD (n + i) = decide (i = 0) := by
    rw [← BitVec.getLsbD_ushiftRight, h]
    simp
  refine BitVec.eq_of_getLsbD_eq fun i _ => ?_
  rw [BitVec.getLsbD_ushiftRight, Nat.add_right_comm, getLsbD_shiftIn_succ, hbit]
  have hlow : i = 0 → n + i < 7 := by omega
  simpa using hlow

/-- A clock that is no conversion keeps the framing: a start bit stands at bit 0 with the countdown at 15, each accumulating
clock moves it up while the countdown falls, and then it stays at bit 7. -/
theorem framedAt_nextCountdown {b : Bool} {cd : Countdown} {ctrl : Byte} (h : framedAt cd ctrl = true) (h7 : cd ≠ 7) :
    framedAt (nextCountdown b cd) (nextControlByte b cd ctrl) = true := by
  have htoNat (h1 : ¬ cd.toNat ≤ 1) : (cd - 1).toNat = cd.toNat - 1 := by bv_omega
  rw [nextCountdown, nextControlByte]
  split
  next h1 =>
    cases b with
    | true => rfl
    | false =>
      obtain h0 | heq := Nat.le_one_iff_eq_zero_or_eq_one.mp h1
      · obtain rfl : cd = 0 := BitVec.eq_of_toNat_eq h0
        exact h
      · exact (framedAt_complete (by decide)).mpr (.inl (getLsbD_seven_of_framedAt h heq.ge (by omega)))
  next h1 =>
    split
    next h9 =>
      have hshift : ctrl >>> (15 - cd.toNat) = 1 := (framedAt_accumulating (by omega)).mp h
      rw [framedAt_accumulating (by rw [htoNat h1]; omega), htoNat h1,
        show 15 - (cd.toNat - 1) = 15 - cd.toNat + 1 by omega]
      exact shiftIn_ushiftRight_succ (by omega) hshift b
    next h9 =>
      exact (framedAt_complete (by rw [htoNat h1]; omega)).mpr (.inl (getLsbD_seven_of_framedAt h (by omega) (by omega)))

/-! The low bits of the output shift register. -/

theorem and_fifteen_eq_zero_iff (x : ShiftWord) : x &&& 0x000F = 0 ↔ ∀ i < 4, x.getLsbD i = false := by
  have hmask : ∀ i < 16, (0x000F : ShiftWord).getLsbD i = decide (i < 4) := by decide
  constructor
  · intro h i hi
    calc x.getLsbD i = (x &&& 0x000F).getLsbD i := by
          rw [BitVec.getLsbD_and, hmask i (by omega), decide_eq_true hi, Bool.and_true]
      _ = false := by rw [h]; exact BitVec.getLsbD_zero
  · intro h
    refine BitVec.eq_of_getLsbD_eq fun i hi => ?_
    rw [BitVec.getLsbD_and, hmask i hi]
    by_cases hlow : i < 4
    · simp [h i hlow]
    · simp [hlow]

theorem lowBitsClear_iff (s : State) : s.lowBitsClear = true ↔ ∀ i < 4, s.osr.getLsbD i = false := by
  rw [State.lowBitsClear, beq_iff_eq]
  exact and_fifteen_eq_zero_iff s.osr

theorem getLsbD_shiftLeft_one_low {x : ShiftWord} (h : ∀ i < 4, x.getLsbD i = false) :
    ∀ i < 4, (x <<< 1).getLsbD i = false := by
  intro i hi
  simp [h (i - 1) (by omega)]

/-- A stored code stands above the low four bits, in both modes. -/
theorem getLsbD_justify_low (mode8 : Bool) (code : Code) : ∀ i < 4, (justify mode8 code).getLsbD i = false := by
  intro i hi
  cases mode8 <;> simp [justify, hi]

/-! The two invariants over a clock, a reset and a step. -/

/-- What the engine's registers look like between operations other than loads. -/
def State.wellFramed (s : State) : Prop := s.framed = true ∧ s.lowBitsClear = true

theorem wellFramed_of_registers_eq {s t : State} (h : s.wellFramed) (hcd : t.cd = s.cd) (hosr : t.osr = s.osr)
    (hctrl : t.ctrl = s.ctrl) : t.wellFramed := by
  unfold State.wellFramed State.framed State.lowBitsClear at *
  rwa [hcd, hosr, hctrl]

theorem wellFramed_of_reset {s : State} (hcd : s.cd = 0) (hosr : s.osr = 0) (hctrl : s.ctrl = 0) : s.wellFramed := by
  unfold State.wellFramed State.framed State.lowBitsClear
  rw [hcd, hosr, hctrl]
  decide

/-- A selected clock keeps both: the conversion finds a complete control byte and stores a code above the low bits, and the
output only shifts. -/
theorem exchangeBit_keeps_wellFramed {b : Bool} {s t : State} (hcs : s.csN = false) (hs : s.wellFramed)
    (h : exchangeBit b s = .next t) : t.wellFramed := by
  obtain ⟨hframed, hlow⟩ := hs
  rw [lowBitsClear_iff] at hlow
  by_cases h7 : s.cd = 7
  · rw [exchangeBit_conversion b hcs h7] at h
    obtain ⟨u, hu, rfl⟩ := mapNext_next h
    obtain ⟨-, code, -, rfl⟩ := convert_next hu
    have hbit : s.ctrl.getLsbD 7 = true := getLsbD_seven_of_framedAt hframed (by simp [h7]) (by simp [h7])
    refine ⟨(framedAt_complete ?_).mpr (.inl hbit), (lowBitsClear_iff _).mpr ?_⟩
    · rw [driveOut_cd, finishConversion_cd, (tick_cd_eq_six_iff s).mpr h7]
      split <;> decide
    · exact getLsbD_shiftLeft_one_low (getLsbD_justify_low _ code)
  · rw [exchangeBit_clocked b hcs h7] at h
    cases h
    exact ⟨framedAt_nextCountdown hframed h7, (lowBitsClear_iff _).mpr (getLsbD_shiftLeft_one_low hlow)⟩

/-- The assertion edge runs the reset sequence. -/
theorem setChipSelect_edge {s : State} (hcs : s.csN = true) :
    setChipSelect false s = { resetSequence s with csN := false } := by
  simp [setChipSelect, hcs, chipSelectReset]

/-- Every operation but a load keeps the framing, from any state that has it. -/
theorem perform_keeps_wellFramed {op : BusOp} {s t : State} (hs : s.wellFramed) (hload : ∀ img, op ≠ .load img)
    (h : perform op s = .next t) : t.wellFramed := by
  obtain ⟨b, rfl, hcs, hclock⟩ | (⟨rfl, hcs⟩ | rfl) | ⟨hcd, hosr, hctrl, -⟩ := perform_engine_cases h hload
  · exact exchangeBit_keeps_wellFramed hcs hs hclock
  · rw [perform, setChipSelect_edge hcs] at h
    cases h
    exact wellFramed_of_reset rfl rfl rfl
  · cases h
    exact wellFramed_of_reset rfl rfl rfl
  · exact wellFramed_of_registers_eq hs hcd hosr hctrl

/-- All a step can do: nothing when nothing is pending, else the oldest pending operation. -/
theorem step_next {s t : State} (h : step s = .next t) :
    (s.script = [] ∧ t = s) ∨ ∃ op rest, s.script = op :: rest ∧ perform op { s with script := rest } = .next t := by
  unfold step performPending at h
  split at h
  next hscript => exact .inl ⟨hscript, by simpa using h.symm⟩
  next op rest hscript => exact .inr ⟨op, rest, hscript, h⟩

/-- Settles O52: a step is idle or one operation, and every operation but a load keeps the framing. -/
theorem everyStepButLoadKeepsTheFraming : Obligations.EveryStepButLoadKeepsTheFraming := by
  intro s t hframed hlow hload h
  obtain ⟨-, rfl⟩ | ⟨op, rest, hscript, hop⟩ := step_next h
  · exact ⟨hframed, hlow⟩
  · have hop_ne (img : List Byte) : op ≠ .load img := fun heq => hload img rest (heq ▸ hscript)
    exact perform_keeps_wellFramed (s := { s with script := rest }) ⟨hframed, hlow⟩ hop_ne hop

end Sys2Proof.Machine
end

section
/-! A framed byte accumulates in `ctrl` MSB first (20_memory.md R52): one clock shifts one bit in and one bit out, for any
number of accumulating clocks, and the bits of a byte shifted in one after the other are the byte. -/

namespace Sys2Proof.Machine

theorem take_bitsMsbFirst {w n : Nat} (v : BitVec w) (hn : n ≤ w) :
    (bitsMsbFirst v).take n = (List.range n).map v.getMsbD := by
  rw [bitsMsbFirst, ← List.map_take, List.take_range, Nat.min_eq_left hn]

/-- The first bits of a value are its high bit and the first bits of the value shifted left. -/
theorem take_succ_bitsMsbFirst {n : Nat} (x : ShiftWord) (hn : n < 16) :
    (bitsMsbFirst x).take (n + 1) = x.getLsbD 15 :: (bitsMsbFirst (x <<< 1)).take n := by
  rw [take_bitsMsbFirst x hn, take_bitsMsbFirst _ hn.le, List.range_succ_eq_map, List.map_cons, List.map_map]
  congr 1
  refine List.map_congr_left fun i hi => ?_
  have hi : i < n := List.mem_range.mp hi
  simp [BitVec.getMsbD_shiftLeft]

/-- From a countdown with enough accumulating clocks left, every clock shifts one bit in and one bit out. -/
theorem performAll_clocks_accumulating (bits : List Bool) (s : State) (hcs : s.csN = false)
    (hcd : 8 + bits.length ≤ s.cd.toNat) :
    performAll (clocks bits) s
      = .next { s with
          cd := BitVec.ofNat 4 (s.cd.toNat - bits.length), ctrl := bits.foldl shiftIn s.ctrl, osr := s.osr <<< bits.length
          out := { s.out with dout := s.out.dout ++ (bitsMsbFirst s.osr).take bits.length } } := by
  induction bits generalizing s with
  | nil => simp [clocks]
  | cons b bits ih =>
    rw [List.length_cons] at hcd ⊢
    have hpred : (s.cd - 1).toNat = s.cd.toNat - 1 := by bv_omega
    have hfirst : performAll (clocks (b :: bits)) s
        = performAll (clocks bits) (clocked (s.cd - 1) (shiftIn s.ctrl b) s) := by
      rw [clocks, List.map_cons, performAll_cons, perform, exchangeBit_accumulate b hcs (by omega)]
      rfl
    rw [hfirst, ih (clocked (s.cd - 1) (shiftIn s.ctrl b) s) hcs (by rw [clocked, hpred]; omega),
      take_succ_bitsMsbFirst s.osr (by have := s.cd.isLt; omega)]
    have hcount : s.cd.toNat - 1 - bits.length = s.cd.toNat - (bits.length + 1) := by omega
    simp only [clocked, hpred, hcount, ← BitVec.shiftLeft_add, Nat.add_comm 1, List.append_assoc, List.singleton_append]
    rfl

/-- Behind the high bits of a byte, shifting its next bit in gives one more of its high bits. -/
theorem shiftIn_ushiftRight_getMsbD (v : Byte) {n : Nat} (hn : n < 8) :
    shiftIn (v >>> (8 - n)) (v.getMsbD n) = v >>> (8 - (n + 1)) := by
  refine BitVec.eq_of_getLsbD_eq fun i hi => ?_
  cases i with
  | zero =>
    have hpos : 8 - 1 - n = 8 - (n + 1) + 0 := by omega
    rw [getLsbD_shiftIn_zero, BitVec.getLsbD_ushiftRight, BitVec.getMsbD, decide_eq_true hn, Bool.true_and, hpos]
  | succ i =>
    have hpos : 8 - (n + 1) + (i + 1) = 8 - n + i := by omega
    rw [getLsbD_shiftIn_succ, decide_eq_true (Nat.lt_of_succ_lt_succ hi), Bool.true_and, BitVec.getLsbD_ushiftRight,
      BitVec.getLsbD_ushiftRight, hpos]

/-- The first bits of a byte, shifted in one after the other, are its high bits. -/
theorem foldl_shiftIn_range (v : Byte) {n : Nat} (hn : n ≤ 8) :
    ((List.range n).map v.getMsbD).foldl shiftIn 0 = v >>> (8 - n) := by
  induction n with
  | zero => exact (BitVec.ushiftRight_eq_zero le_rfl).symm
  | succ n ih =>
    rw [List.range_succ, List.map_append, List.foldl_append, ih (by omega)]
    exact shiftIn_ushiftRight_getMsbD v hn

theorem foldl_shiftIn_bitsMsbFirst (v : Byte) : (bitsMsbFirst v).foldl shiftIn 0 = v := by
  rw [bitsMsbFirst, foldl_shiftIn_range v le_rfl]
  simp

/-- Settles O30: the start bit re-arms the engine at `ctrl = 1`, and the other seven bits accumulate. -/
theorem framedByteAccumulatesMsbFirst : Obligations.FramedByteAccumulatesMsbFirst := by
  intro s v hcs hcd hstart
  have h1 : s.cd.toNat ≤ 1 := by obtain h | h := hcd <;> simp [h]
  obtain ⟨bits, hbits, hlen⟩ : ∃ bits, bitsMsbFirst v = true :: bits ∧ bits.length = 7 := by
    refine ⟨(List.range 7).map (v.getMsbD ∘ Nat.succ), ?_, by simp⟩
    rw [bitsMsbFirst, List.range_succ_eq_map, List.map_cons, List.map_map, BitVec.getMsbD]
    simpa using hstart
  have hctrl : bits.foldl shiftIn 1 = v := by
    calc bits.foldl shiftIn 1 = (true :: bits).foldl shiftIn 0 := rfl
      _ = v := by rw [← hbits, foldl_shiftIn_bitsMsbFirst]
  have hfirst : performAll (cmd v) s = performAll (clocks bits) (clocked 15 1 s) := by
    rw [cmd, xb, hbits, clocks, List.map_cons, performAll_cons, perform, exchangeBit_start hcs h1]
    rfl
  rw [hfirst, performAll_clocks_accumulating bits (clocked 15 1 s) hcs (by rw [hlen]; exact le_rfl), hlen,
    take_succ_bitsMsbFirst s.osr (by decide)]
  simp only [clocked, hctrl, ← BitVec.shiftLeft_add, List.append_assoc, List.singleton_append]
  rfl

end Sys2Proof.Machine
end

section
/-! What an operation does not read: the operations pending after it (20_memory.md R59), and, outside the conversion
clock, the input snapshot (R65). -/

namespace Sys2Proof.Machine

/-- The host replaces what it has pending; no operation of the block. -/
def setScript (script : List BusOp) (s : State) : State := { s with script := script }

theorem convert_setScript (f : Fields) (s : State) (script : List BusOp) :
    convert f (setScript script s) = mapNext (setScript script) (convert f s) := by
  have hcfg : (setScript script s).cfg = s.cfg := rfl
  have hinp : (setScript script s).inp = s.inp := rfl
  rw [convert, convert, hcfg, hinp]
  split
  · split <;> rfl
  · rfl

theorem exchangeBit_setScript (b : Bool) (s : State) (script : List BusOp) :
    exchangeBit b (setScript script s) = mapNext (setScript script) (exchangeBit b s) := by
  cases hcs : s.csN with
  | true =>
    rw [exchangeBit_deselected b hcs, exchangeBit_deselected b (s := setScript script s) hcs]
    rfl
  | false =>
    by_cases h7 : s.cd = 7
    · have hclock : exchangeBit b (setScript script s)
          = mapNext driveOut (convert (decodeFields s.cfg.layout s.ctrl) (setScript script (tick s))) :=
        exchangeBit_conversion b hcs h7
      rw [hclock, exchangeBit_conversion b hcs h7, convert_setScript]
      cases convert (decodeFields s.cfg.layout s.ctrl) (tick s) with
      | next t => rfl
      | fault r => nomatch r
      | refused r => rfl
    · rw [exchangeBit_clocked b hcs h7, exchangeBit_clocked b (s := setScript script s) hcs h7]
      rfl

theorem setChipSelect_setScript (level : Bool) (s : State) (script : List BusOp) :
    setChipSelect level (setScript script s) = setScript script (setChipSelect level s) := by
  by_cases hedge : level = false ∧ s.csN = true
  · obtain ⟨rfl, hcs⟩ := hedge
    rw [setChipSelect_edge hcs, setChipSelect_edge (s := setScript script s) hcs]
    rfl
  · rw [setChipSelect_of_not_edge hedge, setChipSelect_of_not_edge (s := setScript script s) hedge]
    rfl

theorem loadImage_setScript (img : List Byte) (s : State) (script : List BusOp) :
    loadImage img (setScript script s) = mapNext (setScript script) (loadImage img s) := by
  unfold loadImage
  split
  · split <;> rfl
  · rfl

/-- No operation reads or writes what the host has pending. -/
theorem perform_setScript (op : BusOp) (s : State) (script : List BusOp) :
    perform op (setScript script s) = mapNext (setScript script) (perform op s) := by
  cases op with
  | setChipSelect level => exact congrArg _ (setChipSelect_setScript level s script)
  | exchangeBit b => exact exchangeBit_setScript b s script
  | load img => exact loadImage_setScript img s script
  | hardReset | refreshPenIrq | getPenIrq | size | save | input _ => rfl

theorem run_succ_of_next {M : Host.Core} {k : Nat} {s t : M.State} (h : M.step s = .next t) :
    M.run (k + 1) s = M.run k t := by
  rw [Host.Core.run, h]

theorem run_succ_of_refused {M : Host.Core} {k : Nat} {s : M.State} {r : M.Refusal} (h : M.step s = .refused r) :
    M.run (k + 1) s = .refused r := by
  rw [Host.Core.run, h]

/-- The machine's run takes its first step, then the others. -/
theorem run_succ (k : Nat) (s : State) : core.run (k + 1) s = bindNext (core.run k) (step s) := by
  cases hstep : step s with
  | next t => exact run_succ_of_next hstep
  | fault r => nomatch r
  | refused r => exact run_succ_of_refused hstep

theorem step_cons (op : BusOp) (ops : List BusOp) (s : State) :
    step (setScript (op :: ops) s) = perform op (setScript ops s) := rfl

/-- A run over a script whose first part is given performs that part. -/
theorem run_setScript_append (ops rest : List BusOp) (s : State) :
    core.run ops.length (setScript (ops ++ rest) s) = performAll ops (setScript rest s) := by
  induction ops generalizing s with
  | nil => rfl
  | cons op ops ih =>
    rw [List.length_cons, run_succ, List.cons_append, step_cons, performAll_cons, perform_setScript,
      perform_setScript op s rest]
    cases perform op s with
    | next t => exact ih t
    | fault r => nomatch r
    | refused r => rfl

/-- Settles O55: each step takes the oldest operation, which acts alike whatever follows it. -/
theorem stepsRunTheScriptInOrder : Obligations.StepsRunTheScriptInOrder := run_setScript_append

/-- Settles O57: a deselected clock only records its answer, and a selected one outside the conversion is `clocked`, in
which the snapshot does not stand. -/
theorem inputsAreReadOnlyAtTheConversion : Obligations.InputsAreReadOnlyAtTheConversion := by
  intro s u b hsu hconv
  obtain ⟨i, rfl⟩ : ∃ i, u = setInput i s := ⟨u.inp, hsu.symm⟩
  cases hcs : s.csN with
  | true =>
    rw [exchangeBit_deselected b hcs, exchangeBit_deselected b (s := setInput i s) hcs]
    exact rfl
  | false =>
    have h7 : s.cd ≠ 7 := fun h7 => hconv ⟨hcs, h7⟩
    rw [exchangeBit_clocked b hcs h7, exchangeBit_clocked b (s := setInput i s) hcs h7]
    exact rfl

end Sys2Proof.Machine
end

section
/-! What the decoder reads of a control byte (30_encoding.md R71, R73, R75): no field reads the start bit, and in the
default layout the row mask and the fields are bits of the byte. -/

namespace Sys2Proof

/-! The start bit. -/

/-- Setting the start bit leaves every bit below it. -/
theorem getLsbD_or_startBit (b : Byte) (p : Fin 7) : (b ||| 0x80).getLsbD p.val = b.getLsbD p.val := by
  have hzero : (0x80 : Byte).getLsbD p.val = false := by revert p; decide
  rw [BitVec.getLsbD_or, hzero, Bool.or_false]

theorem decodeFields_or_startBit (l : Layout) (b : Byte) : decodeFields l (b ||| 0x80) = decodeFields l b := by
  simp only [decodeFields, getLsbD_or_startBit]

/-- Settles O20: a command acts by its fields alone, and every field stands below the start bit. -/
theorem startBitIsNotRead : Obligations.StartBitIsNotRead := by
  intro l b s
  have hfields : (decode l b).fields = (decode l (b ||| 0x80)).fields := by
    rw [fields_decode, fields_decode, decodeFields_or_startBit]
  exact ⟨hfields, by rw [Machine.exec_eq_convert, Machine.exec_eq_convert, hfields]⟩

/-! The default layout. -/

/-- Settles O3: the decoder evaluated on each byte. -/
theorem writtenOutBytesDecodeToTheirCommands : Obligations.WrittenOutBytesDecodeToTheirCommands := by
  refine ⟨?_, ?_, ?_, ?_, ?_, ?_, ?_, ?_⟩ <;> decide

/-- Every command's control byte lies in its row of the opcode table. -/
theorem encode_and_rowMask (i : Instr) : encode .standard i &&& rowMask = i.matchBits :=
  match i with
  | .convCh0Ser start m p => Laws.EncodeKeepsRow.convCh0Ser start m p
  | .convCh0Dfr start m p => Laws.EncodeKeepsRow.convCh0Dfr start m p
  | .convCh1Ser start m p => Laws.EncodeKeepsRow.convCh1Ser start m p
  | .convCh1Dfr start m p => Laws.EncodeKeepsRow.convCh1Dfr start m p
  | .convCh2Ser start m p => Laws.EncodeKeepsRow.convCh2Ser start m p
  | .convCh2Dfr start m p => Laws.EncodeKeepsRow.convCh2Dfr start m p
  | .convCh3Ser start m p => Laws.EncodeKeepsRow.convCh3Ser start m p
  | .convCh3Dfr start m p => Laws.EncodeKeepsRow.convCh3Dfr start m p
  | .convCh4Ser start m p => Laws.EncodeKeepsRow.convCh4Ser start m p
  | .convCh4Dfr start m p => Laws.EncodeKeepsRow.convCh4Dfr start m p
  | .convCh5Ser start m p => Laws.EncodeKeepsRow.convCh5Ser start m p
  | .convCh5Dfr start m p => Laws.EncodeKeepsRow.convCh5Dfr start m p
  | .convCh6Ser start m p => Laws.EncodeKeepsRow.convCh6Ser start m p
  | .convCh6Dfr start m p => Laws.EncodeKeepsRow.convCh6Dfr start m p
  | .convCh7Ser start m p => Laws.EncodeKeepsRow.convCh7Ser start m p
  | .convCh7Dfr start m p => Laws.EncodeKeepsRow.convCh7Dfr start m p

/-- In the default layout the two selectors are contiguous slices of the byte. -/
theorem decodeFields_standard (b : Byte) :
    decodeFields .standard b = ⟨b.getLsbD 3, !b.getLsbD 2, b.extractLsb' 4 3, b.extractLsb' 0 2⟩ := by
  rw [← ofBool_append_getLsbD_three (b.extractLsb' 4 3), ← ofBool_append_getLsbD_two (b.extractLsb' 0 2)]
  simp only [BitVec.getLsbD_extractLsb']
  rfl

/-- Settles O4: a byte is the encoding of its command, which keeps the row's match value. -/
theorem rowAndFieldsComeFromTheByte : Obligations.RowAndFieldsComeFromTheByte := by
  intro b
  refine ⟨?_, by rw [fields_decode, decodeFields_standard]⟩
  calc b &&& 0x74 = encode .standard (decode .standard b) &&& rowMask := by
        rw [encodeInvertsDecode .standard b (by decide)]
        rfl
    _ = (decode .standard b).matchBits := encode_and_rowMask _

end Sys2Proof
end

section
/-! A whole frame (30_encoding.md R77, R78; 41_bit_engine.md R110): the control byte, the busy clock, the conversion clock
and the clocks that answer the stored code, as one next state for both modes. The two obligations on frames read their
DOUT bits off it. -/

namespace Sys2Proof.Machine

/-! The bits of a stored code. -/

/-- A stored code shows the code's bits from the top, of which 8-bit mode keeps the first eight. -/
theorem getMsbD_justify (mode8 : Bool) (code : Code) (i : Nat) :
    (justify mode8 code).getMsbD i = (code.getMsbD i && (!mode8 || decide (i < 8))) := by
  have hcode : (code.setWidth 16 <<< 4).getMsbD i = code.getMsbD i := by
    rw [BitVec.getMsbD_shiftLeft, BitVec.getMsbD_setWidth]
    simp
  have hhigh : ∀ k < 12, (0xFF00 : ShiftWord).getMsbD k = decide (k < 8) := by decide
  have hmask : (code.getMsbD i && (0xFF00 : ShiftWord).getMsbD i) = (code.getMsbD i && decide (i < 8)) := by
    by_cases hi : i < 12
    · rw [hhigh i hi]
    · simp [BitVec.getMsbD, hi]
  cases mode8 with
  | false => simp only [justify, Bool.false_eq_true, if_false, hcode, Bool.not_false, Bool.true_or, Bool.and_true]
  | true => simp only [justify, if_true, BitVec.getMsbD_and, hcode, hmask, Bool.not_true, Bool.false_or]

theorem take_bitsMsbFirst_justify_twelve (code : Code) :
    (bitsMsbFirst (justify false code)).take 15 = bitsMsbFirst code ++ [false, false, false] := by
  have hbits : (justify false code).getMsbD = code.getMsbD := funext fun i => by simp [getMsbD_justify]
  rw [take_bitsMsbFirst _ (by decide), bitsMsbFirst, hbits, List.range_add (n := 12) (m := 3), List.map_append]
  rfl

theorem take_bitsMsbFirst_justify_eight (code : Code) :
    (bitsMsbFirst (justify true code)).take 15 = (bitsMsbFirst code).take 8 ++ List.replicate 7 false := by
  rw [take_bitsMsbFirst _ (by decide), take_bitsMsbFirst code (by decide), List.range_add (n := 8) (m := 7),
    List.map_append]
  congr 1
  · refine List.map_congr_left fun i hi => ?_
    simp [getMsbD_justify, List.mem_range.mp hi]
  · rw [List.map_map, List.eq_replicate_iff]
    simp [getMsbD_justify]

/-- Fifteen shifts empty a stored code. -/
theorem justify_shiftLeft_fifteen (mode8 : Bool) (code : Code) : justify mode8 code <<< 15 = 0 := by
  refine BitVec.eq_of_getLsbD_eq fun i hi => ?_
  have hlow := getLsbD_justify_low mode8 code (i - 15) (by omega)
  simp [hlow]

/-! The answered bits, one clock more. -/

/-- After `n` shifts the next bit of a value stands at its top. -/
theorem take_bitsMsbFirst_append_shifted {n : Nat} (x : ShiftWord) (hn : n < 16) :
    (bitsMsbFirst x).take n ++ [(x <<< n).getLsbD 15] = (bitsMsbFirst x).take (n + 1) := by
  have htop : (x <<< n).getLsbD 15 = x.getMsbD n := by
    calc (x <<< n).getLsbD 15 = (x <<< n).getMsbD 0 := rfl
      _ = x.getMsbD n := by rw [BitVec.getMsbD_shiftLeft, Nat.zero_add]
  rw [take_bitsMsbFirst x hn.le, take_bitsMsbFirst x hn, List.range_succ, List.map_append, htop]
  rfl

/-- Behind the first bit of a value come the bits of the value shifted left. -/
theorem take_one_append_take_shifted {n : Nat} (x : ShiftWord) (hn : n < 16) :
    (bitsMsbFirst x).take 1 ++ (bitsMsbFirst (x <<< 1)).take n = (bitsMsbFirst x).take (n + 1) := by
  rw [take_succ_bitsMsbFirst x hn, take_succ_bitsMsbFirst x (by decide)]
  rfl

/-! The clocks after the control byte. -/

/-- Outside PD = 2 only a linear entry reads a coordinate, which a snapshot in range has. -/
theorem exists_conversionCode {inp : Snapshot} (hinp : inp.inRange = true) (f : Fields) (cfg : Config) :
    ∃ code, conversionCode f cfg inp = .ok code := by
  have hcoord (axis : Axis) : inUnit (coordinate inp axis) = true := by
    obtain ⟨hx, hy⟩ := Bool.and_eq_true_iff.mp hinp
    cases axis with
    | x => exact hx
    | y => exact hy
  unfold conversionCode
  split
  · exact ⟨_, rfl⟩
  · cases channelTable cfg f.differential f.channel inp.touched with
    | const k => exact ⟨k, rfl⟩
    | linear axis srcMin srcMax dstMin dstMax => exact ⟨_, if_pos (hcoord axis)⟩
    | port => exact ⟨_, rfl⟩

/-- The busy clock between the control byte and the conversion clock. -/
theorem exchangeBit_busy (b : Bool) {s : State} (hcs : s.csN = false) (h8 : s.cd = 8) :
    exchangeBit b s = .next (clocked 7 s.ctrl s) := by
  rw [exchangeBit_clocked b hcs (by rw [h8]; decide), h8]
  rfl

/-- The conversion clock of a command with a code. -/
theorem exchangeBit_conversion_of_code (b : Bool) {s : State} {code : Code} (hcs : s.csN = false) (h7 : s.cd = 7)
    (hc : configOk s.cfg = true) (hk : conversionCode (decodeFields s.cfg.layout s.ctrl) s.cfg s.inp = .ok code) :
    exchangeBit b s = .next (driveOut (finishConversion (decodeFields s.cfg.layout s.ctrl) code (tick s))) := by
  rw [exchangeBit_conversion b hcs h7, convert_of_code (s := tick s) hc hk, mapNext_of_next]

/-- The two clocks that follow a control byte, of a command with a code. -/
theorem performAll_busy_conversion (b0 b1 : Bool) {s : State} {code : Code} (hcs : s.csN = false) (h8 : s.cd = 8)
    (hc : configOk s.cfg = true) (hk : conversionCode (decodeFields s.cfg.layout s.ctrl) s.cfg s.inp = .ok code) :
    performAll (clocks [b0, b1]) s
      = .next (driveOut (finishConversion (decodeFields s.cfg.layout s.ctrl) code (clocked 6 s.ctrl s))) := by
  have htick : tick (clocked 7 s.ctrl s) = clocked 6 s.ctrl s := by simp [tick, clocked]
  have hconv := exchangeBit_conversion_of_code b1 (s := clocked 7 s.ctrl s) hcs rfl hc hk
  rw [clocks, List.map_cons, performAll_cons, perform, exchangeBit_busy b0 hcs h8, bindNext_of_next, List.map_cons,
    performAll_cons, perform, hconv, htick]
  rfl

/-- A clock after the conversion counts down to 0 and stays there, unless a start bit re-arms the engine. -/
theorem exchangeBit_answering {b : Bool} {s : State} (hcs : s.csN = false) (h6 : s.cd.toNat ≤ 6)
    (hb : s.cd.toNat ≤ 1 → b = false) :
    exchangeBit b s = .next (clocked (BitVec.ofNat 4 (s.cd.toNat - 1)) s.ctrl s) := by
  have h7 : s.cd ≠ 7 := fun h => by simp [h] at h6
  rw [exchangeBit_clocked b hcs h7, nextCountdown, nextControlByte]
  by_cases h1 : s.cd.toNat ≤ 1
  · rw [if_pos h1, if_pos h1, hb h1, Nat.sub_eq_zero_of_le h1]
    rfl
  · have hpred : s.cd - 1 = BitVec.ofNat 4 (s.cd.toNat - 1) := by bv_omega
    rw [if_neg h1, if_neg h1, if_neg (by omega), hpred]

/-- From a countdown below the conversion, every clock shifts one bit out, as long as DIN is 0 where the countdown has
run down. -/
theorem performAll_clocks_answering (bits : List Bool) (s : State) (hcs : s.csN = false) (h6 : s.cd.toNat ≤ 6)
    (hlen : bits.length ≤ 16) (hzero : ∀ b ∈ bits.drop (s.cd.toNat - 1), b = false) :
    performAll (clocks bits) s
      = .next { s with
          cd := BitVec.ofNat 4 (s.cd.toNat - bits.length), osr := s.osr <<< bits.length
          out := { s.out with dout := s.out.dout ++ (bitsMsbFirst s.osr).take bits.length } } := by
  induction bits generalizing s with
  | nil => simp [clocks]
  | cons b bits ih =>
    rw [List.length_cons] at hlen ⊢
    have hpred : (BitVec.ofNat 4 (s.cd.toNat - 1)).toNat = s.cd.toNat - 1 := by
      rw [BitVec.toNat_ofNat]
      omega
    have hb : s.cd.toNat ≤ 1 → b = false := fun h1 => hzero b (by simp [Nat.sub_eq_zero_of_le h1])
    have hrest : ∀ b' ∈ bits.drop (s.cd.toNat - 1 - 1), b' = false := by
      refine fun b' hb' => hzero b' ?_
      cases hn : s.cd.toNat - 1 with
      | zero => exact List.mem_cons_of_mem b (List.mem_of_mem_drop hb')
      | succ n => rwa [List.drop_succ_cons, ← Nat.add_sub_cancel (n := n) (m := 1), ← hn]
    have hfirst : performAll (clocks (b :: bits)) s
        = performAll (clocks bits) (clocked (BitVec.ofNat 4 (s.cd.toNat - 1)) s.ctrl s) := by
      rw [clocks, List.map_cons, performAll_cons, perform, exchangeBit_answering hcs h6 hb]
      rfl
    rw [hfirst, ih (clocked (BitVec.ofNat 4 (s.cd.toNat - 1)) s.ctrl s) hcs (by rw [clocked, hpred]; omega) (by omega)
      (by rw [clocked, hpred]; exact hrest), take_succ_bitsMsbFirst s.osr (by omega)]
    have hcount : s.cd.toNat - 1 - bits.length = s.cd.toNat - (bits.length + 1) := by omega
    simp only [clocked, hpred, hcount, ← BitVec.shiftLeft_add, Nat.add_comm 1, List.append_assoc, List.singleton_append]

/-! The frame. -/

/-- The countdown the conversion clock leaves (43_channel_mapper.md R174). -/
def answerCountdown (mode8 : Bool) : Nat := if mode8 then 2 else 6

theorem answerCountdown_pos (mode8 : Bool) : 1 ≤ answerCountdown mode8 := by cases mode8 <;> decide

theorem answerCountdown_le (mode8 : Bool) : answerCountdown mode8 ≤ 6 := by cases mode8 <;> decide

/-- The state a frame leaves `n` clocks after its conversion clock: the control byte `v` stands in `ctrl`, and the clocks
have answered nine bits of residue, then the bits of the stored code. -/
def afterFrame (v : Byte) (code : Code) (n : Nat) (s : State) : State :=
  { s with
    cd := BitVec.ofNat 4 (answerCountdown (decodeFields s.cfg.layout v).mode8 - n)
    ctrl := v
    osr := justify (decodeFields s.cfg.layout v).mode8 code <<< (n + 1)
    penEn := penEnableOf (decodeFields s.cfg.layout v).powerSave
    penIrq := penIrqLevel (penEnableOf (decodeFields s.cfg.layout v).powerSave) s.inp.touched
      (decodeFields s.cfg.layout v).channel s.cfg.touchChannels
    out := { s.out with
      dout := s.out.dout ++ (bitsMsbFirst s.osr).take 9
        ++ (bitsMsbFirst (justify (decodeFields s.cfg.layout v).mode8 code)).take (n + 1) } }

/-- The control byte, the busy clock and the conversion clock: the ninth residue bit and the first bit of the code. -/
theorem performAll_cmd_conversion {s : State} {v : Byte} {code : Code} (b0 b1 : Bool) (hcs : s.csN = false)
    (hcd : s.cd = 0 ∨ s.cd = 1) (hstart : v.getLsbD 7 = true) (hc : configOk s.cfg = true)
    (hk : conversionCode (decodeFields s.cfg.layout v) s.cfg s.inp = .ok code) :
    performAll (cmd v ++ clocks [b0, b1]) s = .next (afterFrame v code 0 s) := by
  have hcount (m : Bool) : (if m then 6 - 4 else 6 : Countdown) = BitVec.ofNat 4 (answerCountdown m) := by
    cases m <;> rfl
  have hfirst (x : ShiftWord) : [x.msb] = (bitsMsbFirst x).take 1 := rfl
  rw [performAll_append, framedByteAccumulatesMsbFirst s v hcs hcd hstart, bindNext_of_next,
    performAll_busy_conversion b0 b1 (by exact hcs) rfl (by exact hc) (by exact hk)]
  simp only [afterFrame, ← take_bitsMsbFirst_append_shifted s.osr (n := 8) (by decide), Nat.sub_zero, Nat.zero_add,
    ← hcount, ← hfirst, ← List.append_assoc]
  rfl

/-- A whole frame, with as many clocks after the conversion clock as `osr` has bits left. -/
theorem performAll_frame {s : State} {v : Byte} {code : Code} (b0 b1 : Bool) (bits : List Bool) (hcs : s.csN = false)
    (hcd : s.cd = 0 ∨ s.cd = 1) (hstart : v.getLsbD 7 = true) (hc : configOk s.cfg = true)
    (hk : conversionCode (decodeFields s.cfg.layout v) s.cfg s.inp = .ok code) (hlen : bits.length ≤ 15)
    (hzero : ∀ b ∈ bits.drop (answerCountdown (decodeFields s.cfg.layout v).mode8 - 1), b = false) :
    performAll (cmd v ++ clocks (b0 :: b1 :: bits)) s = .next (afterFrame v code bits.length s) := by
  have hsplit : cmd v ++ clocks (b0 :: b1 :: bits) = (cmd v ++ clocks [b0, b1]) ++ clocks bits := by simp [clocks]
  have hcount : (afterFrame v code 0 s).cd.toNat = answerCountdown (decodeFields s.cfg.layout v).mode8 := by
    rw [afterFrame]
    cases (decodeFields s.cfg.layout v).mode8 <;> rfl
  rw [hsplit, performAll_append, performAll_cmd_conversion b0 b1 hcs hcd hstart hc hk, bindNext_of_next,
    performAll_clocks_answering bits (afterFrame v code 0 s) hcs (by rw [hcount]; exact answerCountdown_le _) (by omega)
      (by rw [hcount]; exact hzero), hcount]
  simp only [afterFrame, ← take_one_append_take_shifted (n := bits.length) (justify _ _) (by omega),
    ← BitVec.shiftLeft_add, Nat.add_comm 1, List.append_assoc, Nat.zero_add]

/-- Fourteen clocks after the conversion clock the countdown has run down and `osr` is empty, in both modes. -/
theorem afterFrame_atRest (v : Byte) (code : Code) (s : State) :
    (afterFrame v code 14 s).cd = 0 ∧ (afterFrame v code 14 s).osr = 0 := by
  refine ⟨?_, justify_shiftLeft_fifteen _ _⟩
  rw [afterFrame]
  cases (decodeFields s.cfg.layout v).mode8 <;> rfl

/-- A frame whose 24 clocks are counted off by its mode: the DIN bits behind the control byte last until the countdown is
1, and zeros follow. -/
theorem exists_performAll_frame_zeros {s : State} {v : Byte} {din : List Bool} (hready : s.ready = true)
    (hcs : s.csN = false) (hcd : s.cd = 0 ∨ s.cd = 1) (hstart : v.getLsbD 7 = true)
    (hdin : din.length = answerCountdown (decodeFields s.cfg.layout v).mode8 + 1) :
    ∃ code, conversionCode (decodeFields s.cfg.layout v) s.cfg s.inp = .ok code ∧
      performAll (cmd v ++ clocks din ++ xz (15 - answerCountdown (decodeFields s.cfg.layout v).mode8)) s
        = .next (afterFrame v code 14 s) := by
  obtain ⟨hc, hinp⟩ := Bool.and_eq_true_iff.mp hready
  obtain ⟨code, hk⟩ := exists_conversionCode hinp (decodeFields s.cfg.layout v) s.cfg
  have hpos := answerCountdown_pos (decodeFields s.cfg.layout v).mode8
  have hbound := answerCountdown_le (decodeFields s.cfg.layout v).mode8
  generalize hn : answerCountdown (decodeFields s.cfg.layout v).mode8 = n at hdin hpos hbound ⊢
  match din, hdin with
  | [_], hdin =>
    have hone : 1 = n + 1 := hdin
    omega
  | b0 :: b1 :: rest, hdin =>
    have htwo : rest.length + 2 = n + 1 := hdin
    have hrest : rest.length = n - 1 := by omega
    have hlen : (rest ++ List.replicate (15 - n) false).length = 14 := by
      rw [List.length_append, List.length_replicate]
      omega
    have hzero : ∀ b ∈ (rest ++ List.replicate (15 - n) false).drop (n - 1), b = false := by
      rw [← hrest, List.drop_left]
      exact fun b hb => List.eq_of_mem_replicate hb
    have hframe := performAll_frame b0 b1 (rest ++ List.replicate (15 - n) false) hcs hcd hstart hc hk (by omega)
      (by rw [hn]; exact hzero)
    have hsplit : cmd v ++ clocks (b0 :: b1 :: rest) ++ xz (15 - n)
        = cmd v ++ clocks (b0 :: b1 :: (rest ++ List.replicate (15 - n) false)) := by simp [clocks, xz]
    exact ⟨code, hk, by rw [hsplit, hframe, hlen]⟩

/-- Settles O32: the frame of a 12-bit command, whose stored code is the twelve bits and then zeros. -/
theorem twelveBitFrameAnswersTheCode : Obligations.TwelveBitFrameAnswersTheCode := by
  intro s v din hready hcs hcd hstart hmode hdin
  obtain ⟨code, hk, hrun⟩ := exists_performAll_frame_zeros hready hcs hcd hstart (by rw [hmode, hdin]; rfl)
  obtain ⟨hcount, hosr⟩ := afterFrame_atRest v code s
  have hdout : (afterFrame v code 14 s).out.dout
      = s.out.dout ++ (bitsMsbFirst s.osr).take 9 ++ bitsMsbFirst code ++ [false, false, false] := by
    rw [afterFrame, hmode, take_bitsMsbFirst_justify_twelve, List.append_assoc _ (bitsMsbFirst code)]
  rw [hmode] at hrun
  exact ⟨code, afterFrame v code 14 s, hk, hrun, hdout, hcount, rfl, hosr, hcs, rfl, rfl, rfl, rfl⟩

/-- Settles O33: the frame of an 8-bit command, whose stored code is the eight high bits and then zeros. -/
theorem eightBitFrameAnswersTheHighBits : Obligations.EightBitFrameAnswersTheHighBits := by
  intro s v din hready hcs hcd hstart hmode hdin
  obtain ⟨code, hk, hrun⟩ := exists_performAll_frame_zeros hready hcs hcd hstart (by rw [hmode, hdin]; rfl)
  obtain ⟨hcount, hosr⟩ := afterFrame_atRest v code s
  have hdout : (afterFrame v code 14 s).out.dout
      = s.out.dout ++ (bitsMsbFirst s.osr).take 9 ++ (bitsMsbFirst code).take 8 ++ List.replicate 7 false := by
    rw [afterFrame, hmode, take_bitsMsbFirst_justify_eight, List.append_assoc _ ((bitsMsbFirst code).take 8)]
  rw [hmode] at hrun
  exact ⟨code, afterFrame v code 14 s, hk, hrun, hdout, hcount, rfl, hosr, hcs, rfl, rfl, rfl, rfl⟩

end Sys2Proof.Machine
end

section
/-! The chip-select controller (40_chip_select.md R100 to R103): what the two edges of the line, and a call that is no edge,
leave. -/

namespace Sys2Proof.Machine

/-- The reset sequence leaves the registers written out in `engineReset`: its publish sees the enable set and channel 0. -/
theorem resetSequence_eq_engineReset (s : State) : resetSequence s = engineReset s :=
  calc resetSequence s = { engineReset s with penIrq := (resetSequence s).penIrq } := rfl
    _ = engineReset s := by rw [resetSequence_penIrq, penIrqLevel, Bool.true_and]; rfl

/-- Settles O35: the edge runs the reset sequence, whose result is `engineReset`. -/
theorem assertionEdgeRunsTheResetSequence : Obligations.AssertionEdgeRunsTheResetSequence := by
  intro s hcs
  rw [perform, setChipSelect_edge hcs, resetSequence_eq_engineReset]

/-- Settles O36: a line that stands at 1 is not driven to 0, so the call is no assertion edge and latches the level that
stands there. -/
theorem sameLevelChangesNothing : Obligations.SameLevelChangesNothing := by
  intro s
  have hedge : ¬ (s.csN = false ∧ s.csN = true) := by simp
  rw [perform, setChipSelect_of_not_edge hedge]

/-- Settles O37: driving the line to 1 is never the assertion edge. -/
theorem deassertionOnlyLatchesTheLine : Obligations.DeassertionOnlyLatchesTheLine := by
  intro s
  have hedge : ¬ (true = false ∧ s.csN = true) := by simp
  rw [perform, setChipSelect_of_not_edge hedge]

end Sys2Proof.Machine
end

section
/-! The bit engine as the rules state it (41_bit_engine.md R110 to R116): each clock by the countdown before it, the
conversion clock as the command in `ctrl`, and the frames of R111 and R113 read off the whole frame. -/

namespace Sys2Proof.Machine

/-! One clock. -/

/-- The countdowns R110 names for a start-bit clock. -/
theorem toNat_le_one_of_startClock {cd : Countdown} (h : cd = 0 ∨ cd = 1) : cd.toNat ≤ 1 := by
  obtain rfl | rfl := h <;> decide

/-- The clock from countdown 7 is the transition R116 names. -/
theorem exchangeBit_eq_conversionClock (b : Bool) {s : State} (hcs : s.csN = false) (h7 : s.cd = 7) :
    exchangeBit b s = conversionClock { s with cd := 6 } := by
  have htick : tick s = { s with cd := 6 } := by
    rw [tick, h7]
    rfl
  rw [exchangeBit_conversion b hcs h7, htick, conversionClock, exec_eq_convert, fields_decode]

/-- The conversion clock shortens the countdown in 8-bit mode, and never leaves it where a control byte accumulates. -/
theorem conversionClock_next {s t : State} (h6 : s.cd = 6) (h : conversionClock s = .next t) :
    t.ctrl = s.ctrl ∧ (t.cd = 2 ∨ t.cd = 6) := by
  obtain ⟨u, hu, rfl⟩ := mapNext_next h
  rw [exec_eq_convert] at hu
  obtain ⟨-, code, -, rfl⟩ := convert_next hu
  refine ⟨rfl, ?_⟩
  rw [driveOut_cd, finishConversion_cd, h6]
  cases (decode s.cfg.layout s.ctrl).fields.mode8 with
  | true => exact .inl rfl
  | false => exact .inr rfl

/-- A clock that finds no start bit to look for, no byte to accumulate and no command to run counts down and shifts. -/
theorem exchangeBit_waiting (b : Bool) {s : State} (hcs : s.csN = false) (h2 : 2 ≤ s.cd.toNat) (h8 : s.cd.toNat ≤ 8)
    (h7 : s.cd ≠ 7) : exchangeBit b s = .next (clocked (s.cd - 1) s.ctrl s) := by
  rw [exchangeBit_clocked b hcs h7, nextCountdown, nextControlByte, if_neg (by omega), if_neg (by omega),
    if_neg (by omega)]

/-- A 0 at a start-bit clock starts nothing. -/
theorem exchangeBit_noStart {s : State} (hcs : s.csN = false) (h1 : s.cd.toNat ≤ 1) :
    exchangeBit false s = .next (clocked 0 s.ctrl s) := by
  rw [exchangeBit_answering hcs (by omega) (fun _ => rfl), Nat.sub_eq_zero_of_le h1]
  rfl

/-- Settles O25: one clause per branch of the clock. -/
theorem clockFollowsTheEngineSteps : Obligations.ClockFollowsTheEngineSteps := by
  intro s b
  refine ⟨fun hcs => exchangeBit_deselected b hcs, fun hcs hcd => ?start, fun hcs h9 => ?accumulate,
    fun hcs h7 => ?conversion, fun hcs hcd => ?waiting⟩
  case start =>
    have h1 := toNat_le_one_of_startClock hcd
    cases b with
    | true => exact exchangeBit_start hcs h1
    | false => exact exchangeBit_noStart hcs h1
  case accumulate =>
    rw [exchangeBit_accumulate b hcs h9]
    cases b <;> rfl
  case conversion =>
    rw [exchangeBit_eq_conversionClock b hcs h7]
    rfl
  case waiting =>
    obtain h8 | ⟨h2, h6⟩ := hcd
    · exact exchangeBit_waiting b hcs (by simp [h8]) (by simp [h8]) (by simp [h8])
    · exact exchangeBit_waiting b hcs h2 (by omega) (fun h => by simp [h] at h6)

/-- Settles O27: the start-bit clock with DIN = 1. -/
theorem startBitReArmsTheEngine : Obligations.StartBitReArmsTheEngine := by
  intro s hcs hcd
  exact exchangeBit_start hcs (toNat_le_one_of_startClock hcd)

/-- Settles O28: the clock from countdown 7 is the named transition, and every other selected clock is `clocked`, which
writes neither status bit. -/
theorem conversionExactlyAtCountdownSix : Obligations.ConversionExactlyAtCountdownSix := by
  intro s b hcs
  exact ⟨fun h7 => exchangeBit_eq_conversionClock b hcs h7,
    fun h7 => ⟨_, exchangeBit_clocked b hcs h7, rfl, rfl, rfl⟩⟩

/-- Settles O29: neither the conversion clock nor a waiting one reads DIN, and neither leaves the countdown of a start
bit. -/
theorem ignoredBitsAreStoredNowhere : Obligations.IgnoredBitsAreStoredNowhere := by
  intro s hcs h2 h8
  by_cases h7 : s.cd = 7
  · refine ⟨by rw [exchangeBit_eq_conversionClock true hcs h7, exchangeBit_eq_conversionClock false hcs h7],
      fun t h => ?_⟩
    rw [exchangeBit_eq_conversionClock true hcs h7] at h
    obtain ⟨hctrl, hcd⟩ := conversionClock_next rfl h
    exact ⟨hctrl, by obtain hcd | hcd := hcd <;> rw [hcd] <;> decide⟩
  · rw [exchangeBit_waiting true hcs h2 h8 h7, exchangeBit_waiting false hcs h2 h8 h7]
    refine ⟨rfl, fun t h => ?_⟩
    cases h
    have hne : s.cd - 1 ≠ 15 := by bv_omega
    exact ⟨rfl, hne⟩

/-- Settles O26: a deselected clock records a 1 and leaves the line where it is. -/
theorem idleLineAnswersOnesAndChangesNothing : Obligations.IdleLineAnswersOnesAndChangesNothing := by
  intro bits
  induction bits with
  | nil =>
    intro s _
    simp [clocks]
  | cons b bits ih =>
    intro s hcs
    have hfirst : performAll (clocks (b :: bits)) s = performAll (clocks bits) (recordDout true s) := by
      rw [clocks, List.map_cons, performAll_cons, perform, exchangeBit_deselected b hcs]
      rfl
    rw [hfirst, ih (recordDout true s) hcs, List.length_cons, List.replicate_succ, recordDout]
    simp only [List.append_assoc, List.singleton_append]

/-! The step at the conversion clock. -/

/-- A step performs the oldest pending operation. -/
theorem step_of_script {s : State} {op : BusOp} {rest : List BusOp} (h : s.script = op :: rest) :
    step s = perform op { s with script := rest } := by
  rw [step, performPending, h]

/-- Settles O22: the pending clock is the conversion clock. -/
theorem stepRunsTheDecodedCommand : Obligations.StepRunsTheDecodedCommand := by
  intro i s b rest hscript hcs h7 hi
  rw [step_of_script hscript, perform, ← hi,
    exchangeBit_eq_conversionClock b (s := { s with script := rest }) hcs h7]
  rfl

/-- The decoder reads a one-byte word as that byte. -/
theorem bytesOfWord_eight (w : Nat) : bytesOfWord 8 w = [BitVec.ofNat 8 w] := by
  have hbyte : BitVec.ofNat 8 (w % 2 ^ 8) = BitVec.ofNat 8 w := BitVec.eq_of_toNat_eq (by simp)
  simpa [bytesOfWord] using hbyte

theorem decodeTableWord_eight (w : Nat) :
    decodeTableWord 8 w = some (decode .standard (BitVec.ofNat 8 w)) := by
  rw [decodeTableWord, bytesOfWord_eight]
  rfl

/-- Settles O24: the byte placed is the command's own under the layout, and it decodes to the command. -/
theorem fetchWordRunsItsCommand : Obligations.FetchWordRunsItsCommand := by
  intro i s w hperm hi
  obtain rfl : decode .standard (BitVec.ofNat 8 w) = i := by rwa [decodeTableWord_eight, Option.some_inj] at hi
  refine ⟨?_, fun hstd => ?_⟩
  · rw [State.withFetchWord, bytesOfWord_eight]
    exact stepRunsTheDecodedCommand _ _ false s.script rfl rfl rfl (decodeInvertsEncode _ _ hperm)
  · rw [hstd]
    exact encodeInvertsDecode _ _ (by decide)

/-- Both stored forms of a code show its high bit first. -/
theorem msb_justify (mode8 : Bool) (code : Code) : (justify mode8 code).msb = code.getLsbD 11 := by
  have hkept : (!mode8 || decide (0 < 8)) = true := by simp
  calc (justify mode8 code).msb = (code.getMsbD 0 && (!mode8 || decide (0 < 8))) := getMsbD_justify mode8 code 0
    _ = code.getLsbD 11 := by rw [hkept, Bool.and_true]; rfl

/-- Settles O23: a snapshot in range gives every command a code, with which the conversion clock completes. -/
theorem readyConversionClockCompletes : Obligations.ReadyConversionClockCompletes := by
  intro s b rest f hscript hcs h7 hready hf
  obtain ⟨hc, hinp⟩ := Bool.and_eq_true_iff.mp hready
  obtain ⟨code, hk⟩ := exists_conversionCode hinp f s.cfg
  subst hf
  have hclock := exchangeBit_conversion_of_code b (s := { s with script := rest }) hcs h7 hc hk
  have hcd : (tick { s with script := rest }).cd = 6 := (tick_cd_eq_six_iff _).mpr h7
  refine ⟨code, _, hk, (step_of_script hscript).trans hclock, ?_, rfl, ?_, rfl, rfl, hcs, rfl, rfl, rfl, rfl⟩
  · rw [driveOut_out, finishConversion_osr, msb_justify]
    rfl
  · rw [driveOut_cd, finishConversion_cd, hcd]
    rfl

/-! The frames. -/

/-- The first DIN bits behind a control byte, up to the clock that leaves the countdown at 1, whatever they are. -/
theorem performAll_cmd_clocks {s : State} {v : Byte} {code : Code} (b0 b1 : Bool) (bits : List Bool)
    (hcs : s.csN = false) (hcd : s.cd = 0 ∨ s.cd = 1) (hstart : v.getLsbD 7 = true) (hc : configOk s.cfg = true)
    (hk : conversionCode (decodeFields s.cfg.layout v) s.cfg s.inp = .ok code)
    (hlen : bits.length < answerCountdown (decodeFields s.cfg.layout v).mode8) :
    performAll (cmd v ++ clocks (b0 :: b1 :: bits)) s = .next (afterFrame v code bits.length s) := by
  have hbound := answerCountdown_le (decodeFields s.cfg.layout v).mode8
  refine performAll_frame b0 b1 bits hcs hcd hstart hc hk (by omega) fun b hb => ?_
  rw [List.drop_of_length_le (by omega)] at hb
  cases hb

/-- The state a framed byte leaves (20_memory.md R52): it stands in `ctrl`, and its clocks have answered eight bits of
residue. -/
def afterByte (v : Byte) (s : State) : State :=
  { s with
    cd := 8, ctrl := v, osr := s.osr <<< 8
    out := { s.out with dout := s.out.dout ++ (bitsMsbFirst s.osr).take 8 } }

theorem performAll_cmd {s : State} {v : Byte} (hcs : s.csN = false) (hcd : s.cd = 0 ∨ s.cd = 1)
    (hstart : v.getLsbD 7 = true) : performAll (cmd v) s = .next (afterByte v s) :=
  framedByteAccumulatesMsbFirst s v hcs hcd hstart

/-- The countdown within a frame, in both modes: one down from 8 at each clock, with the jump of the conversion clock in
between. -/
theorem exists_performAll_frame_cd {s : State} {v : Byte} {din : List Bool} (hready : s.ready = true)
    (hcs : s.csN = false) (hcd : s.cd = 0 ∨ s.cd = 1) (hstart : v.getLsbD 7 = true)
    (hdin : din.length ≤ answerCountdown (decodeFields s.cfg.layout v).mode8 + 1) :
    ∃ t, performAll (cmd v ++ clocks din) s = .next t ∧
      t.cd.toNat = if din.length ≤ 1 then 8 - din.length
        else answerCountdown (decodeFields s.cfg.layout v).mode8 + 2 - din.length := by
  have hbyte := performAll_cmd hcs hcd hstart
  match din, hdin with
  | [], _ =>
    exact ⟨afterByte v s, by rw [clocks, List.map_nil, List.append_nil, hbyte], rfl⟩
  | [b], _ =>
    have hbusy := exchangeBit_busy b (s := afterByte v s) hcs rfl
    refine ⟨clocked 7 v (afterByte v s), ?_, rfl⟩
    rw [performAll_append, hbyte, bindNext_of_next, clocks, List.map_cons, performAll_cons, perform, hbusy]
    rfl
  | b0 :: b1 :: bits, hdin =>
    rw [List.length_cons, List.length_cons] at hdin ⊢
    obtain ⟨hc, hinp⟩ := Bool.and_eq_true_iff.mp hready
    obtain ⟨code, hk⟩ := exists_conversionCode hinp (decodeFields s.cfg.layout v) s.cfg
    refine ⟨_, performAll_cmd_clocks b0 b1 bits hcs hcd hstart hc hk (by omega), ?_⟩
    have hbound := answerCountdown_le (decodeFields s.cfg.layout v).mode8
    rw [afterFrame, BitVec.toNat_ofNat, if_neg (by omega)]
    omega

/-- Settles O31: the countdown of `exists_performAll_frame_cd` in each mode. -/
theorem countdownIsAFunctionOfTheClock : Obligations.CountdownIsAFunctionOfTheClock := by
  intro s v din hready hcs hcd hstart
  refine ⟨fun hmode hdin => ?_, fun hmode hdin => ?_⟩
  · have hanswer : answerCountdown (decodeFields s.cfg.layout v).mode8 = 6 := by rw [hmode]; rfl
    obtain ⟨t, hrun, ht⟩ := exists_performAll_frame_cd hready hcs hcd hstart (din := din) (by omega)
    rw [hanswer, ite_self] at ht
    exact ⟨t, hrun, ht⟩
  · have hanswer : answerCountdown (decodeFields s.cfg.layout v).mode8 = 2 := by rw [hmode]; rfl
    obtain ⟨t, hrun, ht⟩ := exists_performAll_frame_cd hready hcs hcd hstart (din := din) (by omega)
    rw [hanswer] at ht
    exact ⟨t, hrun, ht⟩

/-- Behind the first bits of a value come those of the value shifted left past them. -/
theorem take_append_take_shifted {n m : Nat} (x : ShiftWord) (h : n + m ≤ 16) :
    (bitsMsbFirst x).take n ++ (bitsMsbFirst (x <<< n)).take m = (bitsMsbFirst x).take (n + m) := by
  rw [take_bitsMsbFirst x (by omega), take_bitsMsbFirst _ (by omega), take_bitsMsbFirst x h, List.range_add,
    List.map_append, List.map_map]
  congr 1
  refine List.map_congr_left fun i hi => ?_
  have hi : i < m := List.mem_range.mp hi
  simp [BitVec.getMsbD_shiftLeft, Nat.add_comm]

/-- Six bits of a first frame and the nine residue bits of a second one are the whole stored code of the first. -/
theorem afterFrame_afterFrame_dout {v w : Byte} (code code' : Code) {s : State}
    (hmode : (decodeFields s.cfg.layout v).mode8 = false) (hmode' : (decodeFields s.cfg.layout w).mode8 = false) :
    (afterFrame w code' 14 (afterFrame v code 5 s)).out.dout
      = s.out.dout ++ (bitsMsbFirst s.osr).take 9 ++ bitsMsbFirst code ++ [false, false, false]
        ++ bitsMsbFirst code' ++ [false, false, false] := by
  have hcode : (bitsMsbFirst (justify false code)).take 6 ++ (bitsMsbFirst (justify false code <<< 6)).take 9
      = bitsMsbFirst code ++ [false, false, false] := by
    rw [take_append_take_shifted _ (by decide), take_bitsMsbFirst_justify_twelve]
  calc (afterFrame w code' 14 (afterFrame v code 5 s)).out.dout
      = s.out.dout ++ (bitsMsbFirst s.osr).take 9 ++ (bitsMsbFirst (justify false code)).take 6
        ++ (bitsMsbFirst (justify false code <<< 6)).take 9 ++ (bitsMsbFirst (justify false code')).take 15 := by
        simp only [afterFrame, hmode, hmode']
    _ = _ := by
        rw [List.append_assoc _ _ ((bitsMsbFirst (justify false code <<< 6)).take 9), hcode,
          take_bitsMsbFirst_justify_twelve]
        simp only [List.append_assoc]

/-- Settles O34: the second frame starts where the first has answered six bits of its code and the countdown is 1; the
other nine are the residue the second frame answers first. -/
theorem overlappedFramesAnswerBothCodes : Obligations.OverlappedFramesAnswerBothCodes := by
  intro s v w din din' hready hcs hcd hv hmode hw hmode' hdin hdin'
  obtain ⟨hc, hinp⟩ := Bool.and_eq_true_iff.mp hready
  obtain ⟨code, hk⟩ := exists_conversionCode hinp (decodeFields s.cfg.layout v) s.cfg
  have hfirst : performAll (cmd v ++ clocks din) s = .next (afterFrame v code 5 s) := by
    match din, hdin with
    | b0 :: b1 :: bits, hdin =>
      have hbits : bits.length = 5 := by simpa using hdin
      rw [← hbits]
      exact performAll_cmd_clocks b0 b1 bits hcs hcd hv hc hk (by rw [hbits, hmode]; decide)
  have hcount : (afterFrame v code 5 s).cd = 1 := by
    rw [afterFrame, hmode]
    rfl
  have hmode_w : (decodeFields (afterFrame v code 5 s).cfg.layout w).mode8 = false := hmode'
  obtain ⟨code', hk', hsecond⟩ := exists_performAll_frame_zeros (s := afterFrame v code 5 s) hready hcs (.inr hcount)
    hw (by rw [hmode_w, hdin']; rfl)
  rw [hmode_w] at hsecond
  refine ⟨code, code', afterFrame w code' 14 (afterFrame v code 5 s), hk, hk', ?_,
    afterFrame_afterFrame_dout code code' hmode hmode'⟩
  rw [performAll_append, hfirst, bindNext_of_next]
  exact hsecond

end Sys2Proof.Machine
end

section
/-! What the fields of a command decide (42_control_byte.md R130 to R148): the row its table entry, the power-save field the
source of the code and the interrupt enable, MODE the stored form and the countdown. All of it is read off one next state,
`converted`, which a command reaches as soon as it has a code. -/

namespace Sys2Proof.Machine

/-! The source of the code. -/

/-- PD = 2 takes the override (43_channel_mapper.md R161). -/
theorem conversionCode_of_override {f : Fields} (h : f.powerSave = 2) (cfg : Config) (inp : Snapshot) :
    conversionCode f cfg inp = .ok (pd2Code f.channel inp.touched) := by
  rw [conversionCode, if_pos (beq_iff_eq.mpr h)]

/-- Any other PD takes the table's entry (43_channel_mapper.md R160). -/
theorem conversionCode_of_table {f : Fields} (h : f.powerSave ≠ 2) (cfg : Config) (inp : Snapshot) :
    conversionCode f cfg inp = entryCode cfg inp (channelTable cfg f.differential f.channel inp.touched) := by
  rw [conversionCode, if_neg (mt beq_iff_eq.mp h)]

/-! The next state. -/

/-- The conversion's writes and its publish leave the state written out in `converted`. -/
theorem finishConversion_eq_converted (f : Fields) (code : Code) (s : State) :
    finishConversion f code s = converted f.mode8 f.powerSave code s := rfl

/-- A command with a code completes. -/
theorem exec_of_conversionCode {i : Instr} {s : State} {code : Code} (hc : configOk s.cfg = true)
    (hk : conversionCode i.fields s.cfg s.inp = .ok code) : exec i s = .next (converted i.mode8 i.pd code s) := by
  rw [exec_eq_convert, convert_of_code hc hk, finishConversion_eq_converted, Instr.mode8, Instr.pd]

/-- A command outside PD = 2 converts the value of the table entry under its own key. -/
theorem exec_of_entryCode (i : Instr) {s : State} {k : Code} (hc : configOk s.cfg = true) (hpd : i.pd ≠ 2)
    (hk : entryCode s.cfg s.inp (channelTable s.cfg i.fields.differential i.fields.channel s.inp.touched) = .ok k) :
    exec i s = .next (converted i.mode8 i.pd k s) :=
  exec_of_conversionCode hc ((conversionCode_of_table hpd s.cfg s.inp).trans hk)

/-- In a ready state every command has a code. -/
theorem exists_exec_converted {s : State} (hready : s.ready = true) (i : Instr) :
    ∃ code, conversionCode i.fields s.cfg s.inp = .ok code ∧ exec i s = .next (converted i.mode8 i.pd code s) := by
  obtain ⟨hc, hinp⟩ := Bool.and_eq_true_iff.mp hready
  obtain ⟨code, hk⟩ := exists_conversionCode hinp i.fields s.cfg
  exact ⟨code, hk, exec_of_conversionCode hc hk⟩

/-! The obligations. -/

/-- Settles O6: each row's key is the pair (0, channel) in its command's fields. -/
theorem singleEndedRowsConvertTheirOwnEntry : Obligations.SingleEndedRowsConvertTheirOwnEntry := by
  intro st m pd k s hc hpd
  exact ⟨exec_of_entryCode (.convCh0Ser st m pd) hc hpd, exec_of_entryCode (.convCh1Ser st m pd) hc hpd,
    exec_of_entryCode (.convCh2Ser st m pd) hc hpd, exec_of_entryCode (.convCh3Ser st m pd) hc hpd,
    exec_of_entryCode (.convCh4Ser st m pd) hc hpd, exec_of_entryCode (.convCh5Ser st m pd) hc hpd,
    exec_of_entryCode (.convCh6Ser st m pd) hc hpd, exec_of_entryCode (.convCh7Ser st m pd) hc hpd⟩

/-- Settles O7: each row's key is the pair (1, channel) in its command's fields. -/
theorem differentialRowsConvertTheirOwnEntry : Obligations.DifferentialRowsConvertTheirOwnEntry := by
  intro st m pd k s hc hpd
  exact ⟨exec_of_entryCode (.convCh0Dfr st m pd) hc hpd, exec_of_entryCode (.convCh1Dfr st m pd) hc hpd,
    exec_of_entryCode (.convCh2Dfr st m pd) hc hpd, exec_of_entryCode (.convCh3Dfr st m pd) hc hpd,
    exec_of_entryCode (.convCh4Dfr st m pd) hc hpd, exec_of_entryCode (.convCh5Dfr st m pd) hc hpd,
    exec_of_entryCode (.convCh6Dfr st m pd) hc hpd, exec_of_entryCode (.convCh7Dfr st m pd) hc hpd⟩

/-- The power-save values with a clear low bit are 0 and 2 (43_channel_mapper.md R175). -/
theorem penEnableOf_eq (pd : PowerSave) : penEnableOf pd = (pd == 0 || pd == 2) := by revert pd; decide

/-- Settles O9: the code stored is the command's own, whose source PD decides, and the enable is `penEnableOf`. -/
theorem powerSaveFieldGovernsCodeAndEnable : Obligations.PowerSaveFieldGovernsCodeAndEnable := by
  intro i s hready
  obtain ⟨code, hk, hexec⟩ := exists_exec_converted hready i
  refine ⟨_, hexec, penEnableOf_eq i.pd, fun hpd => ?override, fun hpd => ⟨code, ?table, rfl⟩⟩
  case override =>
    rw [conversionCode_of_override hpd, Except.ok.injEq] at hk
    rw [hk]
    rfl
  case table => rwa [conversionCode_of_table hpd] at hk

/-- Settles O18: MODE selects the branches of the stored form and of the countdown, which goes on from 6. -/
theorem modeBitSelectsTheResponse : Obligations.ModeBitSelectsTheResponse := by
  intro i s hready h6
  obtain ⟨code, hk, hexec⟩ := exists_exec_converted hready i
  refine ⟨code, _, hk, hexec, fun hmode => ?_, fun hmode => ?_⟩
  · rw [hmode]
    exact ⟨rfl, h6⟩
  · rw [hmode]
    refine ⟨rfl, ?_⟩
    rw [converted, h6]
    rfl

end Sys2Proof.Machine
end

section
/-! `INTERP` and the linear map (43_channel_mapper.md R164, R165, R171): every rounding answers the floor or the ceiling,
the linear map keeps a coordinate in [0, 1] between its two endpoint values, and a rounding that turns both endpoint
values into codes turns every value between them into one. -/

namespace Sys2Proof.Machine

/-! The roundings. -/

/-- On values that are not negative truncation is the floor. -/
theorem interpolate_truncate_of_nonneg {v : Rat} (h : 0 ≤ v) : interpolate .truncate v = v.floor := by
  rw [interpolate, Rat.floor_def, Int.tdiv_eq_ediv_of_nonneg (Rat.num_nonneg.mpr h)]

/-- Truncation is symmetric about zero. -/
theorem interpolate_truncate_neg (v : Rat) : interpolate .truncate (-v) = -interpolate .truncate v := by
  rw [interpolate, interpolate, Rat.num_neg_eq_neg_num, Rat.den_neg_eq_den, Int.neg_tdiv]

/-- On values that are not positive truncation is the ceiling. -/
theorem interpolate_truncate_of_nonpos {v : Rat} (h : v ≤ 0) : interpolate .truncate v = v.ceil := by
  rw [Rat.ceil_eq_neg_floor_neg, ← interpolate_truncate_of_nonneg (neg_nonneg.mpr h), interpolate_truncate_neg,
    neg_neg]

theorem interpolate_eq_floor_or_ceil (m : Interp) (v : Rat) :
    interpolate m v = v.floor ∨ interpolate m v = v.ceil := by
  cases m with
  | truncate =>
    rcases le_total 0 v with h | h
    · exact .inl (interpolate_truncate_of_nonneg h)
    · exact .inr (interpolate_truncate_of_nonpos h)
  | neighbour =>
    rw [interpolate]
    split
    · exact .inr rfl
    · exact .inl rfl

/-- Settles O16: truncation takes the floor or the ceiling by the sign of its argument. -/
theorem interpAnswersFloorOrCeiling : Obligations.InterpAnswersFloorOrCeiling :=
  ⟨fun _ => interpolate_truncate_of_nonneg, interpolate_eq_floor_or_ceil⟩

/-- No rounding moves an integer. -/
theorem interpolate_intCast (m : Interp) (n : Int) : interpolate m n = n := by
  rcases interpolate_eq_floor_or_ceil m n with h | h
  · rw [h, Rat.floor_intCast]
  · rw [h, Rat.ceil_intCast]

theorem monotone_floor : Monotone Rat.floor := fun _ _ => Rat.floor_monotone

theorem monotone_ceil : Monotone Rat.ceil := by
  intro u v h
  rw [Rat.ceil_eq_neg_floor_neg, Rat.ceil_eq_neg_floor_neg]
  exact neg_le_neg (monotone_floor (neg_le_neg h))

/-- Below zero truncation is the ceiling, above it the floor, and both meet at zero. -/
theorem monotone_interpolate_truncate : Monotone (interpolate .truncate) := by
  have hzero : interpolate .truncate 0 = 0 := interpolate_intCast .truncate 0
  have hneg : MonotoneOn (interpolate .truncate) (Set.Iic 0) := monotone_ceil.monotoneOn _ |>.congr
    fun _ hv => (interpolate_truncate_of_nonpos hv).symm
  have hpos : MonotoneOn (interpolate .truncate) (Set.Ici 0) := monotone_floor.monotoneOn _ |>.congr
    fun _ hv => (interpolate_truncate_of_nonneg hv).symm
  exact hneg.Iic_union_Ici hpos

/-! Values between two endpoint values. -/

theorem isCode_iff (n : Int) : isCode n = true ↔ n ∈ Set.Icc 0 0xFFF := by
  rw [isCode, Bool.and_eq_true, decide_eq_true_iff, decide_eq_true_iff, Set.mem_Icc]

/-- An endpoint value that is a code is one under every rounding. -/
theorem endpointOk_natCast (m : Interp) {n : Nat} (h : n ≤ 0xFFF) : endpointOk m n = true := by
  have hcode : isCode n = true := (isCode_iff n).mpr ⟨Int.natCast_nonneg n, Int.ofNat_le.mpr h⟩
  rw [← Int.cast_natCast n]
  cases m with
  | truncate => rwa [endpointOk, interpolate_intCast]
  | neighbour => rw [endpointOk, Rat.floor_intCast, Rat.ceil_intCast, hcode, Bool.and_self]

/-- A monotone rounding that turns two values into codes turns the values between them into codes. -/
theorem isCode_of_mem_uIcc {f : Rat → Int} (hf : Monotone f) {u v w : Rat} (hu : isCode (f u) = true)
    (hw : isCode (f w) = true) (hv : v ∈ Set.uIcc u w) : isCode (f v) = true :=
  (isCode_iff _).mpr
    (Set.uIcc_subset_Icc ((isCode_iff _).mp hu) ((isCode_iff _).mp hw) (hf.mapsTo_uIcc hv))

/-- An unknown choice of floor and ceiling need not be monotone; but floor and ceiling are, and either may be chosen. -/
theorem isCode_interpolate {m : Interp} {u v w : Rat} (hu : endpointOk m u = true) (hw : endpointOk m w = true)
    (hv : v ∈ Set.uIcc u w) : isCode (interpolate m v) = true := by
  cases m with
  | truncate => exact isCode_of_mem_uIcc monotone_interpolate_truncate hu hw hv
  | neighbour =>
    obtain ⟨hufloor, huceil⟩ := Bool.and_eq_true_iff.mp hu
    obtain ⟨hwfloor, hwceil⟩ := Bool.and_eq_true_iff.mp hw
    rcases interpolate_eq_floor_or_ceil .neighbour v with h | h
    · rw [h]
      exact isCode_of_mem_uIcc monotone_floor hufloor hwfloor hv
    · rw [h]
      exact isCode_of_mem_uIcc monotone_ceil huceil hwceil hv

/-- The linear map takes the segment [0, 1] into the segment between its endpoint values. -/
theorem linearValue_mem_uIcc (srcMin srcMax : Rat) (dstMin dstMax : Code) {v : Rat} (h0 : 0 ≤ v) (h1 : v ≤ 1) :
    linearValue srcMin srcMax dstMin dstMax v
      ∈ Set.uIcc (linearValue srcMin srcMax dstMin dstMax 0) (linearValue srcMin srcMax dstMin dstMax 1) := by
  rw [← segment_eq_uIcc]
  refine ⟨1 - v, v, sub_nonneg.mpr h1, h0, sub_add_cancel 1 v, ?_⟩
  simp only [linearValue, smul_eq_mul]
  ring

/-! The value of a linear entry. -/

theorem inUnit_iff (q : Rat) : inUnit q = true ↔ 0 ≤ q ∧ q ≤ 1 := by
  rw [inUnit, Bool.and_eq_true, decide_eq_true_iff, decide_eq_true_iff]

/-- A linear entry whose rounded value is a natural number has that number as its code. -/
theorem entryCode_linear {cfg : Config} {inp : Snapshot} {a : Axis} {srcMin srcMax : Rat} {dstMin dstMax : Code}
    {n : Nat} (hunit : inUnit (coordinate inp a) = true)
    (hn : (n : Int) = interpolate cfg.interp (linearValue srcMin srcMax dstMin dstMax (coordinate inp a))) :
    entryCode cfg inp (.linear a srcMin srcMax dstMin dstMax) = .ok (BitVec.ofNat 12 n) := by
  rw [entryCode, if_pos hunit, ← hn, BitVec.ofInt_natCast]

/-- A linear entry in range rounds a coordinate in [0, 1] to a code (43_channel_mapper.md R171). -/
theorem exists_interpolate_linearValue {m : Interp} {a : Axis} {srcMin srcMax v : Rat} {dstMin dstMax : Code}
    (hrange : entryRangeOk m (.linear a srcMin srcMax dstMin dstMax) = true) (h0 : 0 ≤ v) (h1 : v ≤ 1) :
    ∃ n : Nat, n ≤ 0xFFF ∧ (n : Int) = interpolate m (linearValue srcMin srcMax dstMin dstMax v) := by
  simp only [entryRangeOk, Bool.and_eq_true] at hrange
  obtain ⟨⟨-, hstart⟩, hend⟩ := hrange
  have hcode := isCode_interpolate hstart hend (linearValue_mem_uIcc srcMin srcMax dstMin dstMax h0 h1)
  obtain ⟨hlow, hhigh⟩ := (isCode_iff _).mp hcode
  exact ⟨_, Int.toNat_le.mpr hhigh, Int.toNat_of_nonneg hlow⟩

end Sys2Proof.Machine
end

section
/-! The channel mapper's table (43_channel_mapper.md R160 to R177): what a well-formed configuration holds under each key,
and what a command makes of it. Outside PD = 2 the kind of the entry decides the code; under PD = 2 no entry is read. -/

namespace Sys2Proof.Machine

/-! The entries of a well-formed configuration. -/

/-- Every key has the shape of R170. -/
theorem entryShapeOk_of_configOk {cfg : Config} (hc : configOk cfg = true) (d : Bool) (c : Channel) (t : Bool) :
    entryShapeOk (cfg.touchChannels.contains c) t (channelTable cfg d c t) = true :=
  (Bool.and_eq_true_iff.mp (keyOk_of_configOk hc d c t)).1

/-- A touch channel's dormant entry is a constant (43_channel_mapper.md R170, first point). -/
theorem exists_const_of_dormant_shape {e : Entry} (h : entryShapeOk true false e = true) : ∃ k, e = .const k := by
  cases e with
  | const k => exact ⟨k, rfl⟩
  | linear => cases h
  | port => cases h

/-- Any other channel's entries are constants or the port lookup (43_channel_mapper.md R170, second point). -/
theorem const_or_port_of_other_shape {t : Bool} {e : Entry} (h : entryShapeOk false t e = true) :
    (∃ k, e = .const k) ∨ e = .port := by
  cases e with
  | const k => exact .inl ⟨k, rfl⟩
  | linear => cases h
  | port => exact .inr rfl

/-- The linear map of channel 5 (43_channel_mapper.md R167): from 0x0FD, 3658 codes up to 0xF47. -/
theorem linearValue_channel5 (x : Rat) : linearValue 0 1 0x0FD#12 0xF47#12 x = 3658 * x + 253 := by
  have hmin : ((0x0FD#12).toNat : Rat) = 253 := rfl
  have hmax : ((0xF47#12).toNat : Rat) = 3911 := rfl
  rw [linearValue, hmin, hmax]
  ring

theorem entryRangeOk_channel5Touched (m : Interp) : entryRangeOk m Config.channel5Touched = true := by
  have hsource : decide ((0 : Rat) ≠ 1) = true := by decide
  have hstart : linearValue 0 1 0x0FD#12 0xF47#12 0 = (0x0FD : Nat) := by
    rw [linearValue_channel5]
    norm_num
  have hend : linearValue 0 1 0x0FD#12 0xF47#12 1 = (0xF47 : Nat) := by
    rw [linearValue_channel5]
    norm_num
  rw [Config.channel5Touched, entryRangeOk, hsource, hstart, hend, endpointOk_natCast m (by decide),
    endpointOk_natCast m (by decide)]
  rfl

/-- The entries the source fixes lie in range under every rounding. -/
theorem entryRangeOk_of_fixedEntry {m : Interp} {d : Bool} {c : Channel} {t : Bool} {e : Entry}
    (he : fixedEntry d c t = some e) : entryRangeOk m e = true := by
  unfold fixedEntry at he
  split at he
  · exact Option.some.inj he ▸ entryRangeOk_channel5Touched m
  · split at he
    · exact Option.some.inj he ▸ rfl
    · split at he
      · exact Option.some.inj he ▸ rfl
      · cases he

/-- Every key lies in the range of R171, the fixed ones included. -/
theorem entryRangeOk_of_configOk {cfg : Config} (hc : configOk cfg = true) (d : Bool) (c : Channel) (t : Bool) :
    entryRangeOk cfg.interp (channelTable cfg d c t) = true := by
  have hkey := (Bool.and_eq_true_iff.mp (keyOk_of_configOk hc d c t)).2
  cases hfixed : fixedEntry d c t with
  | some e =>
    rw [channelTable_of_fixed hc hfixed]
    exact entryRangeOk_of_fixedEntry hfixed
  | none => rwa [hfixed] at hkey

/-! The source of the code. -/

/-- Under PD = 2 a command converts the override of its own channel. -/
theorem exec_of_pd2Code (i : Instr) {s : State} {k : Code} (hc : configOk s.cfg = true) (hpd : i.pd = 2)
    (hk : pd2Code i.fields.channel s.inp.touched = k) : exec i s = .next (converted i.mode8 i.pd k s) :=
  exec_of_conversionCode hc (by rw [conversionCode_of_override hpd, hk])

/-- The override of channels 3 and 5 depends on the touch (43_channel_mapper.md R161). -/
theorem pd2Code_of_touch_sensitive {c : Channel} (hch : c = 3 ∨ c = 5) (t : Bool) :
    pd2Code c t = if t then 0xFFF else 0x000 := by
  rcases hch with rfl | rfl <;> cases t <;> rfl

/-- A constant entry is its own code, whatever the snapshot is. -/
theorem exec_of_const (i : Instr) {s : State} {k : Code} (hc : configOk s.cfg = true) (hpd : i.pd ≠ 2)
    (he : channelTable s.cfg i.fields.differential i.fields.channel s.inp.touched = .const k) :
    exec i s = .next (converted i.mode8 i.pd k s) :=
  exec_of_entryCode i hc hpd (by rw [he]; rfl)

/-- A port entry gives the code of the port identity, whatever the coordinates are. -/
theorem exec_of_port (i : Instr) {s : State} (hc : configOk s.cfg = true) (hpd : i.pd ≠ 2)
    (he : channelTable s.cfg i.fields.differential i.fields.channel s.inp.touched = .port) :
    exec i s = .next (converted i.mode8 i.pd (portCode s.cfg.portCodes s.inp.port) s) :=
  exec_of_entryCode i hc hpd (by rw [he]; rfl)

/-- Channel 5, single-ended and touched, at a coordinate mapped to an integer: no rounding matters. -/
theorem exec_channel5_touched (st m : Bool) {pd : PowerSave} {s : State} {n : Nat} (hc : configOk s.cfg = true)
    (hpd : pd ≠ 2) (ht : s.inp.touched = true) (hunit : inUnit s.inp.x = true) (hn : 3658 * s.inp.x + 253 = n) :
    exec (.convCh5Ser st m pd) s = .next (converted m pd (BitVec.ofNat 12 n) s) := by
  have hentry : channelTable s.cfg false 5 s.inp.touched = Config.channel5Touched := by
    rw [ht]
    exact channelTable_of_fixed hc rfl
  have hround : (n : Int) = interpolate s.cfg.interp (linearValue 0 1 0x0FD#12 0xF47#12 s.inp.x) := by
    rw [linearValue_channel5, hn]
    exact (interpolate_intCast s.cfg.interp n).symm
  have hcode : entryCode s.cfg s.inp Config.channel5Touched = .ok (BitVec.ofNat 12 n) := entryCode_linear hunit hround
  exact exec_of_entryCode (.convCh5Ser st m pd) hc hpd (hentry ▸ hcode)

/-- The two stored forms of one code (43_channel_mapper.md R173, R174), all else alike. -/
theorem converted_eightBit (pd : PowerSave) (code : Code) (s : State) :
    converted true pd code s
      = { converted false pd code s with
          osr := (converted false pd code s).osr &&& 0xFF00, cd := (converted false pd code s).cd - 4 } := rfl

/-! The obligations. -/

/-- Settles O5: a ready state gives every command a code, and a command with a code completes. -/
theorem everyReadyCommandCompletes : Obligations.EveryReadyCommandCompletes := fun i _ hready =>
  exists_exec_converted hready i

/-- Settles O8: row by row, the override of the command's channel. -/
theorem powerSaveTwoOverridesEveryRow : Obligations.PowerSaveTwoOverridesEveryRow := by
  intro st m s hc
  have h3 := pd2Code_of_touch_sensitive (c := 3) (.inl rfl) s.inp.touched
  have h5 := pd2Code_of_touch_sensitive (c := 5) (.inr rfl) s.inp.touched
  exact ⟨exec_of_pd2Code (.convCh0Ser st m 2) hc rfl rfl, exec_of_pd2Code (.convCh0Dfr st m 2) hc rfl rfl,
    exec_of_pd2Code (.convCh1Ser st m 2) hc rfl rfl, exec_of_pd2Code (.convCh1Dfr st m 2) hc rfl rfl,
    exec_of_pd2Code (.convCh2Ser st m 2) hc rfl rfl, exec_of_pd2Code (.convCh2Dfr st m 2) hc rfl rfl,
    exec_of_pd2Code (.convCh3Ser st m 2) hc rfl h3, exec_of_pd2Code (.convCh3Dfr st m 2) hc rfl h3,
    exec_of_pd2Code (.convCh4Ser st m 2) hc rfl rfl, exec_of_pd2Code (.convCh4Dfr st m 2) hc rfl rfl,
    exec_of_pd2Code (.convCh5Ser st m 2) hc rfl h5, exec_of_pd2Code (.convCh5Dfr st m 2) hc rfl h5,
    exec_of_pd2Code (.convCh6Ser st m 2) hc rfl rfl, exec_of_pd2Code (.convCh6Dfr st m 2) hc rfl rfl,
    exec_of_pd2Code (.convCh7Ser st m 2) hc rfl rfl, exec_of_pd2Code (.convCh7Dfr st m 2) hc rfl rfl⟩

/-- Settles O10: the fixed entry is a constant, and MODE selects its stored form. -/
theorem channel5DormantFixture : Obligations.Channel5DormantFixture := by
  intro st m pd s hc
  have hentry : channelTable s.cfg false 5 false = .const 0x3FB := channelTable_of_fixed hc rfl
  refine ⟨hentry, fun hpd ht => ⟨_, exec_of_const (.convCh5Ser st m pd) hc hpd (by rw [ht]; exact hentry), ?_⟩⟩
  cases m <;> rfl

/-- Settles O11: the three coordinates are mapped to integers, which every rounding keeps. -/
theorem channel5LinearFixture : Obligations.Channel5LinearFixture := by
  intro st m pd s hc hpd ht
  refine ⟨fun hx => ?_, fun hx => ?_, fun hx => ?_⟩ <;>
    exact exec_channel5_touched st m hc hpd ht ((inUnit_iff _).mpr (by rw [hx]; norm_num)) (by rw [hx]; norm_num)

/-- Settles O12: under PD = 2 the override of channel 0 is the very code of its constant entries. -/
theorem channel0DifferentialFixture : Obligations.Channel0DifferentialFixture := by
  intro st m pd s hc
  have hentry (t : Bool) : channelTable s.cfg true 0 t = .const 0xFFF := by
    cases t <;> exact channelTable_of_fixed hc rfl
  have hexec : exec (.convCh0Dfr st m pd) s = .next (converted m pd 0xFFF s) := by
    by_cases hpd : pd = 2
    · exact exec_of_pd2Code (.convCh0Dfr st m pd) hc hpd rfl
    · exact exec_of_const (.convCh0Dfr st m pd) hc hpd (hentry s.inp.touched)
  refine ⟨hentry false, hentry true, _, hexec, ?_⟩
  cases m <;> rfl

/-- Settles O13: the dormant entry of a touch channel has the shape of a constant. -/
theorem dormantTouchChannelsConvertAConstant : Obligations.DormantTouchChannelsConvertAConstant := by
  intro i s hc hpd ht htouch
  have hshape := entryShapeOk_of_configOk hc i.fields.differential i.fields.channel false
  rw [List.contains_iff_mem.mpr htouch] at hshape
  obtain ⟨k, hk⟩ := exists_const_of_dormant_shape hshape
  exact ⟨k, hk, exec_of_const i hc hpd (by rw [ht, hk])⟩

/-- Settles O14: an entry of any other channel has the shape of a constant or of the port lookup. -/
theorem otherChannelsConvertAConstantOrThePort : Obligations.OtherChannelsConvertAConstantOrThePort := by
  intro i s hc hpd hother
  have hshape := entryShapeOk_of_configOk hc i.fields.differential i.fields.channel s.inp.touched
  rw [Bool.eq_false_iff.mpr (mt List.contains_iff_mem.mp hother)] at hshape
  rcases const_or_port_of_other_shape hshape with ⟨k, hk⟩ | hport
  · exact ⟨k, .inl hk, exec_of_const i hc hpd hk⟩
  · exact ⟨portCode s.cfg.portCodes s.inp.port, .inr ⟨hport, rfl⟩, exec_of_port i hc hpd hport⟩

/-- Settles O15: the entry lies in range, so INTERP of its value is a code. -/
theorem linearEntriesInterpolateInRange : Obligations.LinearEntriesInterpolateInRange := by
  intro i s a srcMin srcMax dstMin dstMax hc hpd hentry h0 h1
  have hrange := entryRangeOk_of_configOk hc i.fields.differential i.fields.channel s.inp.touched
  rw [hentry] at hrange
  obtain ⟨n, hle, hn⟩ := exists_interpolate_linearValue hrange h0 h1
  have hcode := entryCode_linear ((inUnit_iff _).mpr ⟨h0, h1⟩) hn
  exact ⟨n, hle, hn, exec_of_entryCode i hc hpd (by rw [hentry, hcode])⟩

/-- Settles O19: the twins have one code, for MODE is no part of a table key; they differ in how it is stored. -/
theorem eightBitModeTruncatesItsTwin : Obligations.EightBitModeTruncatesItsTwin := by
  intro i j s t hfields hmode hexec
  rw [exec_eq_convert] at hexec
  obtain ⟨hc, code, hk, rfl⟩ := convert_next hexec
  have hk8 : conversionCode i.fields s.cfg s.inp = .ok code := by
    rw [hfields]
    exact hk
  have hmode : j.fields.mode8 = false := hmode
  rw [exec_eq_convert, convert_of_code hc hk8, hfields, finishConversion_eq_converted, finishConversion_eq_converted,
    hmode, converted_eightBit]

end Sys2Proof.Machine
end

section
/-! The image port (44_state_image.md R200 to R206): the bytes of a field and the field of those bytes, and what a
load does with a short buffer, with a header out of range and with an image. -/

namespace Sys2Proof.Machine

/-! The fields as bytes, and back. -/

theorem boolByte_eq_ite (b : Bool) : boolByte b = if b then 0x01 else 0x00 := by revert b; decide

theorem toNat_boolByte_le (b : Bool) : (boolByte b).toNat ≤ 1 := by revert b; decide

theorem getLsbD_zero_boolByte (b : Bool) : (boolByte b).getLsbD 0 = b := by revert b; decide

/-- A byte that is 0 or 1 is read as its lowest bit. -/
theorem getLsbD_zero_of_le_one {b : Byte} (h : b.toNat ≤ 1) : b.getLsbD 0 = (b == 1) := by
  obtain h0 | h1 := Nat.le_one_iff_eq_zero_or_eq_one.mp h
  · obtain rfl : b = 0 := BitVec.eq_of_toNat_eq h0
    rfl
  · obtain rfl : b = 1 := BitVec.eq_of_toNat_eq h1
    rfl

theorem toNat_setWidth_countdown (cd : Countdown) : (cd.setWidth 8).toNat = cd.toNat := by
  rw [BitVec.toNat_setWidth]
  omega

/-- The four bits a byte holds of a countdown are the countdown. -/
theorem extractLsb'_setWidth_countdown (cd : Countdown) : (cd.setWidth 8).extractLsb' 0 4 = cd := by
  revert cd; decide

/-- Two bytes joined, the high one first, as a number. -/
theorem append_eq_ofNat (hi lo : Byte) : hi ++ lo = BitVec.ofNat 16 (256 * hi.toNat + lo.toNat) := by
  refine BitVec.eq_of_toNat_eq ?_
  have hjoin : (hi ++ lo).toNat = 2 ^ 8 * hi.toNat + lo.toNat := by
    rw [BitVec.toNat_append, Nat.shiftLeft_eq_mul_pow, Nat.mul_comm, Nat.two_pow_add_eq_or_of_lt lo.isLt]
  rw [hjoin, BitVec.toNat_ofNat]
  omega

theorem extractLsb'_append_halves (x : ShiftWord) : x.extractLsb' 8 8 ++ x.extractLsb' 0 8 = x := by
  calc x.extractLsb' 8 8 ++ x.extractLsb' 0 8
      = x.extractLsb' 0 16 := BitVec.extractLsb'_append_extractLsb'_eq_extractLsb' rfl
    _ = x := BitVec.extractLsb'_eq_self

/-- The saved image, byte by byte (44_state_image.md R201). -/
theorem imageOf_eq (s : State) :
    imageOf s = [if s.penEn then 0x01 else 0x00, BitVec.ofNat 8 s.cd.toNat, s.ctrl, BitVec.ofNat 8 (s.osr.toNat / 256),
      BitVec.ofNat 8 s.osr.toNat, if s.csN then 0x01 else 0x00] := by
  have hhigh : s.osr.extractLsb' 8 8 = BitVec.ofNat 8 (s.osr.toNat / 256) := by
    rw [BitVec.extractLsb', Nat.shiftRight_eq_div_pow]
  have hcd : s.cd.setWidth 8 = BitVec.ofNat 8 s.cd.toNat := (BitVec.ofNat_toNat ..).symm
  rw [imageOf, boolByte_eq_ite, boolByte_eq_ite, hhigh, hcd]
  rfl

/-! A load. -/

/-- The three bytes of an image that have more bits than their fields hold no more than their fields (44_state_image.md
R204). -/
def headerOk (b0 b1 b5 : Byte) : Prop := b0.toNat ≤ 1 ∧ b1.toNat ≤ 15 ∧ b5.toNat ≤ 1

theorem not_headerOk_iff (b0 b1 b5 : Byte) :
    ¬ headerOk b0 b1 b5 ↔ 1 < b0.toNat ∨ 15 < b1.toNat ∨ 1 < b5.toNat := by
  rw [headerOk]
  omega

/-- The state an accepted load leaves (44_state_image.md R203, R205). -/
def loaded (b0 b1 b2 b3 b4 b5 : Byte) (s : State) : State :=
  publish
    { s with penEn := b0.getLsbD 0, cd := b1.extractLsb' 0 4, ctrl := b2, osr := b3 ++ b4, csN := b5.getLsbD 0 }

theorem loadImage_of_headerOk {b0 b1 b5 : Byte} (h : headerOk b0 b1 b5) (b2 b3 b4 : Byte) (rest : List Byte)
    (s : State) : loadImage (b0 :: b1 :: b2 :: b3 :: b4 :: b5 :: rest) s = .next (loaded b0 b1 b2 b3 b4 b5 s) := by
  obtain ⟨h0, h1, h5⟩ := h
  refine if_neg ?_
  simp only [Bool.or_eq_true, decide_eq_true_eq]
  bv_omega

theorem loadImage_of_not_headerOk {b0 b1 b5 : Byte} (h : ¬ headerOk b0 b1 b5) (b2 b3 b4 : Byte) (rest : List Byte)
    (s : State) : loadImage (b0 :: b1 :: b2 :: b3 :: b4 :: b5 :: rest) s = .refused .invalidImage := by
  rw [not_headerOk_iff] at h
  refine if_pos ?_
  simp only [Bool.or_eq_true, decide_eq_true_eq]
  bv_omega

/-- A buffer is short, or begins with the six bytes of an image. -/
theorem length_lt_six_or_exists_bytes (img : List Byte) :
    img.length < 6 ∨ ∃ b0 b1 b2 b3 b4 b5 rest, img = b0 :: b1 :: b2 :: b3 :: b4 :: b5 :: rest := by
  match img with
  | b0 :: b1 :: b2 :: b3 :: b4 :: b5 :: rest => exact .inr ⟨b0, b1, b2, b3, b4, b5, rest, rfl⟩
  | [] | [_] | [_, _] | [_, _, _] | [_, _, _, _] | [_, _, _, _, _] => exact .inl (by simp)

theorem loadImage_of_short {img : List Byte} (h : img.length < 6) (s : State) :
    loadImage img s = .refused .shortImage := by
  unfold loadImage
  split
  · simp only [List.length_cons] at h
    omega
  · rfl

/-- An accepted load does not depend on the state it meets: it is accepted in every other state too. -/
theorem loadImage_next_loaded {img : List Byte} {s t : State} (h : loadImage img s = .next t) :
    ∃ b0 b1 b2 b3 b4 b5, t = loaded b0 b1 b2 b3 b4 b5 s ∧
      ∀ u, loadImage img u = .next (loaded b0 b1 b2 b3 b4 b5 u) := by
  obtain ⟨b0, b1, b2, b3, b4, b5, rest, rfl, rfl⟩ := loadImage_next h
  by_cases hok : headerOk b0 b1 b5
  · exact ⟨b0, b1, b2, b3, b4, b5, rfl, loadImage_of_headerOk hok b2 b3 b4 rest⟩
  · rw [loadImage_of_not_headerOk hok] at h
    cases h

/-! The obligations. -/

/-- Settles O45: the answer is the constant of the port. -/
theorem sizeIsSixInEveryState : Obligations.SizeIsSixInEveryState := fun s => ⟨rfl, imageOf_length s⟩

/-- Settles O46: each byte is its field's value. -/
theorem saveWritesTheFields : Obligations.SaveWritesTheFields := by
  intro s
  rw [perform, save, imageOf_eq]

/-- Settles O47: with a header in range every byte is read as the number it stands for. -/
theorem loadWritesTheFields : Obligations.LoadWritesTheFields := by
  intro b0 b1 b2 b3 b4 b5 rest s h0 h1 h5
  rw [perform, loadImage_of_headerOk ⟨h0, h1, h5⟩, loaded, getLsbD_zero_of_le_one h0, getLsbD_zero_of_le_one h5,
    append_eq_ofNat]
  rfl

/-- Settles O48: a buffer is short, or has six bytes, whose header is in range or not. -/
theorem loadRefusesExactlyBadImages : Obligations.LoadRefusesExactlyBadImages := by
  intro img s
  rw [perform]
  obtain hshort | ⟨b0, b1, b2, b3, b4, b5, rest, rfl⟩ := length_lt_six_or_exists_bytes img
  · rw [loadImage_of_short hshort]
    exact ⟨iff_of_true rfl hshort, iff_of_false nofun fun ⟨hlong, _⟩ => absurd hshort (Nat.not_lt.mpr hlong)⟩
  · have hlong : 6 ≤ (b0 :: b1 :: b2 :: b3 :: b4 :: b5 :: rest).length := by simp
    by_cases hok : headerOk b0 b1 b5
    · rw [loadImage_of_headerOk hok]
      exact ⟨iff_of_false nofun (Nat.not_lt.mpr hlong),
        iff_of_false nofun fun ⟨_, hbad⟩ => (not_headerOk_iff b0 b1 b5).mpr hbad hok⟩
    · rw [loadImage_of_not_headerOk hok]
      exact ⟨iff_of_false nofun (Nat.not_lt.mpr hlong),
        iff_of_true rfl ⟨hlong, (not_headerOk_iff b0 b1 b5).mp hok⟩⟩

/-- Settles O49: a saved image has a header in range, and each field is read back from its bytes. -/
theorem savedImageRestoresTheState : Obligations.SavedImageRestoresTheState := by
  intro s t
  have hcd : (s.cd.setWidth 8).toNat ≤ 15 := by
    have := s.cd.isLt
    rw [toNat_setWidth_countdown]
    omega
  have hok : headerOk (boolByte s.penEn) (s.cd.setWidth 8) (boolByte s.csN) :=
    ⟨toNat_boolByte_le _, hcd, toNat_boolByte_le _⟩
  rw [perform, imageOf, loadImage_of_headerOk hok, loaded, getLsbD_zero_boolByte, getLsbD_zero_boolByte,
    extractLsb'_setWidth_countdown, extractLsb'_append_halves]
  rfl

end Sys2Proof.Machine
end

section
/-! What the saved fields decide (20_memory.md R60, 44_state_image.md R206): two states that agree in the five saved
fields, the inputs and the configuration stay in lockstep, whatever they hold in the level, the script and the records. -/

namespace Sys2Proof.Machine

/-! The states that go alike. -/

/-- `s` with other values in the fields that neither the image nor the host's inputs and configuration hold. -/
def withUnsaved (level : Bool) (script : List BusOp) (out : Records) (s : State) : State :=
  { s with penIrq := level, script := script, out := out }

/-- Two states that agree in the saved fields, in the inputs and in the configuration. -/
structure Agree (s u : State) : Prop where
  saved : sameSaved s u
  inp : s.inp = u.inp
  cfg : s.cfg = u.cfg

theorem Agree.eq_withUnsaved {s u : State} (h : Agree s u) : u = withUnsaved u.penIrq u.script u.out s := by
  obtain ⟨⟨hpen, hcd, hctrl, hosr, hcs⟩, hinp, hcfg⟩ := h
  rw [withUnsaved, hpen, hcd, hctrl, hosr, hcs, hinp, hcfg]

theorem agree_withUnsaved (level : Bool) (script : List BusOp) (out : Records) (s : State) :
    Agree s (withUnsaved level script out s) :=
  ⟨⟨rfl, rfl, rfl, rfl, rfl⟩, rfl, rfl⟩

/-! Records that grow alike. -/

/-- Two records grow by the same answers. -/
def GrowAlike {α : Type} (xs xs' ys ys' : List α) : Prop := ∃ zs, xs' = xs ++ zs ∧ ys' = ys ++ zs

theorem GrowAlike.refl {α : Type} (xs ys : List α) : GrowAlike xs xs ys ys :=
  ⟨[], (List.append_nil xs).symm, (List.append_nil ys).symm⟩

theorem GrowAlike.trans {α : Type} {xs xs' xs'' ys ys' ys'' : List α} (h : GrowAlike xs xs' ys ys')
    (h' : GrowAlike xs' xs'' ys' ys'') : GrowAlike xs xs'' ys ys'' := by
  obtain ⟨zs, rfl, rfl⟩ := h
  obtain ⟨zs', rfl, rfl⟩ := h'
  exact ⟨zs ++ zs', List.append_assoc .., List.append_assoc ..⟩

/-- `s` goes to `s'` as `u` goes to `u'`: they agree after, the same bits, images and sizes were answered, and, if the
levels were the same, the levels after and the levels answered are the same. -/
structure Lockstep (s u s' u' : State) : Prop where
  agree : Agree s' u'
  dout : GrowAlike s.out.dout s'.out.dout u.out.dout u'.out.dout
  image : GrowAlike s.out.image s'.out.image u.out.image u'.out.image
  size : GrowAlike s.out.size s'.out.size u.out.size u'.out.size
  level : s.penIrq = u.penIrq → s'.penIrq = u'.penIrq
  irq : s.penIrq = u.penIrq → GrowAlike s.out.irq s'.out.irq u.out.irq u'.out.irq

theorem Lockstep.refl {s u : State} (h : Agree s u) : Lockstep s u s u where
  agree := h
  dout := .refl ..
  image := .refl ..
  size := .refl ..
  level := id
  irq _ := .refl ..

theorem Lockstep.trans {s u s' u' s'' u'' : State} (h : Lockstep s u s' u') (h' : Lockstep s' u' s'' u'') :
    Lockstep s u s'' u'' where
  agree := h'.agree
  dout := h.dout.trans h'.dout
  image := h.image.trans h'.image
  size := h.size.trans h'.size
  level hlevel := h'.level (h.level hlevel)
  irq hlevel := (h.irq hlevel).trans (h'.irq (h.level hlevel))

/-- A change that records no answer. -/
theorem Lockstep.of_silent {s u s' u' : State} (hs : s'.out = s.out) (hu : u'.out = u.out) (hagree : Agree s' u')
    (hlevel : s.penIrq = u.penIrq → s'.penIrq = u'.penIrq) : Lockstep s u s' u' where
  agree := hagree
  dout := hs ▸ hu ▸ .refl ..
  image := hs ▸ hu ▸ .refl ..
  size := hs ▸ hu ▸ .refl ..
  level := hlevel
  irq _ := hs ▸ hu ▸ .refl ..

/-- A change that records the same bit. -/
theorem Lockstep.of_bit {s u s' u' : State} {b : Bool} (hs : s'.out = { s.out with dout := s.out.dout ++ [b] })
    (hu : u'.out = { u.out with dout := u.out.dout ++ [b] }) (hagree : Agree s' u')
    (hlevel : s.penIrq = u.penIrq → s'.penIrq = u'.penIrq) : Lockstep s u s' u' where
  agree := hagree
  dout := ⟨[b], congrArg Records.dout hs, congrArg Records.dout hu⟩
  image := hs ▸ hu ▸ .refl ..
  size := hs ▸ hu ▸ .refl ..
  level := hlevel
  irq _ := hs ▸ hu ▸ .refl ..

/-! One operation. -/

section
variable (level : Bool) (script : List BusOp) (out : Records)

theorem setChipSelect_lockstep (line : Bool) (s : State) :
    Lockstep s (withUnsaved level script out s) (setChipSelect line s)
      (setChipSelect line (withUnsaved level script out s)) := by
  by_cases hedge : line = false ∧ s.csN = true
  · obtain ⟨rfl, hcs⟩ := hedge
    rw [setChipSelect_edge hcs, setChipSelect_edge (s := withUnsaved level script out s) hcs]
    exact .of_silent rfl rfl (agree_withUnsaved ..) fun _ => rfl
  · rw [setChipSelect_of_not_edge hedge, setChipSelect_of_not_edge (s := withUnsaved level script out s) hedge]
    exact .of_silent rfl rfl (agree_withUnsaved ..) id

/-- A clock reads none of the fields that may differ: the conversion reads the inputs, the configuration and `ctrl`. -/
theorem exchangeBit_lockstep {b : Bool} {s s' : State} (h : exchangeBit b s = .next s') :
    ∃ u', exchangeBit b (withUnsaved level script out s) = .next u' ∧
      Lockstep s (withUnsaved level script out s) s' u' := by
  cases hcs : s.csN with
  | true =>
    rw [exchangeBit_deselected b hcs] at h
    cases h
    exact ⟨_, exchangeBit_deselected b hcs, .of_bit rfl rfl (agree_withUnsaved ..) id⟩
  | false =>
    by_cases h7 : s.cd = 7
    · rw [exchangeBit_conversion b hcs h7] at h
      obtain ⟨t, ht, rfl⟩ := mapNext_next h
      obtain ⟨hc, code, hk, rfl⟩ := convert_next ht
      exact ⟨_, exchangeBit_conversion_of_code b hcs h7 hc hk, .of_bit rfl rfl (agree_withUnsaved ..) fun _ => rfl⟩
    · rw [exchangeBit_clocked b hcs h7] at h
      cases h
      exact ⟨_, exchangeBit_clocked b hcs h7, .of_bit rfl rfl (agree_withUnsaved ..) id⟩

/-- Every operation completes alike with other values in the unsaved fields. -/
theorem perform_withUnsaved_lockstep {op : BusOp} {s s' : State} (h : perform op s = .next s') :
    ∃ u', perform op (withUnsaved level script out s) = .next u' ∧
      Lockstep s (withUnsaved level script out s) s' u' := by
  have hagree : Agree s (withUnsaved level script out s) := agree_withUnsaved ..
  cases op with
  | exchangeBit b => exact exchangeBit_lockstep level script out h
  | setChipSelect line =>
    cases h
    exact ⟨_, rfl, setChipSelect_lockstep level script out line s⟩
  | load img =>
    obtain ⟨b0, b1, b2, b3, b4, b5, rfl, hload⟩ := loadImage_next_loaded h
    exact ⟨_, hload _, .of_silent rfl rfl (agree_withUnsaved ..) fun _ => rfl⟩
  | hardReset | refreshPenIrq =>
    cases h
    exact ⟨_, rfl, .of_silent rfl rfl (agree_withUnsaved ..) fun _ => rfl⟩
  | input i =>
    cases h
    exact ⟨_, rfl, .of_silent rfl rfl (agree_withUnsaved ..) id⟩
  | size =>
    cases h
    exact ⟨_, rfl, { Lockstep.refl hagree with agree := agree_withUnsaved .., size := ⟨[imageSize], rfl, rfl⟩ }⟩
  | save =>
    cases h
    exact ⟨_, rfl, { Lockstep.refl hagree with agree := agree_withUnsaved .., image := ⟨[imageOf s], rfl, rfl⟩ }⟩
  | getPenIrq =>
    cases h
    exact ⟨_, rfl, { Lockstep.refl hagree with
      agree := agree_withUnsaved ..
      irq := fun hlevel => ⟨[s.penIrq], rfl, by rw [hlevel]; rfl⟩ }⟩

end

/-- Every operation completes alike in two states that agree. -/
theorem perform_lockstep {op : BusOp} {s u s' : State} (hagree : Agree s u) (h : perform op s = .next s') :
    ∃ u', perform op u = .next u' ∧ Lockstep s u s' u' := by
  rw [hagree.eq_withUnsaved]
  exact perform_withUnsaved_lockstep u.penIrq u.script u.out h

/-! A sequence of operations. -/

theorem performAll_lockstep {ops : List BusOp} {s u s' : State} (hagree : Agree s u) (h : performAll ops s = .next s') :
    ∃ u', performAll ops u = .next u' ∧ Lockstep s u s' u' := by
  induction ops generalizing s u with
  | nil =>
    cases h
    exact ⟨u, rfl, .refl hagree⟩
  | cons op ops ih =>
    obtain ⟨t, hop, hops⟩ := bindNext_next h
    obtain ⟨v, hopu, hfirst⟩ := perform_lockstep hagree hop
    obtain ⟨u', hopsu, hothers⟩ := ih hfirst.agree hops
    refine ⟨u', ?_, hfirst.trans hothers⟩
    rw [performAll_cons, hopu, bindNext_of_next, hopsu]

/-- Settles O50: every operation keeps the two runs in lockstep. -/
theorem savedFieldsDetermineTheFuture : Obligations.SavedFieldsDetermineTheFuture := by
  intro ops s u s' hsaved hinp hcfg h
  obtain ⟨u', hu, hstep⟩ := performAll_lockstep ⟨hsaved, hinp, hcfg⟩ h
  obtain ⟨bits, hbits, hbits'⟩ := hstep.dout
  obtain ⟨images, himages, himages'⟩ := hstep.image
  obtain ⟨sizes, hsizes, hsizes'⟩ := hstep.size
  refine ⟨u', hu, hstep.agree.saved, hstep.agree.inp, hstep.agree.cfg,
    ⟨bits, images, sizes, hbits, hbits', himages, himages', hsizes, hsizes'⟩, ?_⟩
  intro ⟨_, hlevel⟩
  exact ⟨⟨hstep.agree.saved, hstep.level hlevel⟩, hstep.irq hlevel⟩

end Sys2Proof.Machine
end

section
/-! The published level and the refusals (60_exceptions.md R220 to R229): what a publish event is and what it leaves in the
latch, and which uses are refused. -/

namespace Sys2Proof.Machine

/-! The latch. -/

/-- An operation that publishes (60_exceptions.md R225): the assertion edge, the conversion clock, a hard reset, a load or a
refresh. -/
def PublishEvent (op : BusOp) (s : State) : Prop :=
  (op = .setChipSelect false ∧ s.csN = true) ∨ (∃ b, op = .exchangeBit b ∧ s.csN = false ∧ s.cd = 7) ∨
    op = .hardReset ∨ (∃ img, op = .load img) ∨ op = .refreshPenIrq

/-- The latch stands at the level of 60_exceptions.md R224 for the other fields as they stand. -/
def State.LevelCurrent (s : State) : Prop :=
  s.penIrq = penIrqLevel s.penEn s.inp.touched s.ch s.cfg.touchChannels

/-- Whatever stood in the latch, a publish makes it current. -/
theorem levelCurrent_publish (s : State) : (publish s).LevelCurrent := rfl

/-- A current level is asserted only under its enable. -/
theorem State.LevelCurrent.levelEnabled {s : State} (h : s.LevelCurrent) : s.levelEnabled = true := by
  rw [State.levelEnabled]
  cases hirq : s.penIrq with
  | false => rfl
  | true => exact penEn_of_penIrqLevel (h.symm.trans hirq)

theorem levelEnabled_of_status_eq {s t : State} (h : s.levelEnabled = true) (hpen : t.penEn = s.penEn)
    (hirq : t.penIrq = s.penIrq) : t.levelEnabled = true := by
  rwa [State.levelEnabled, hpen, hirq]

/-- A clock publishes at the conversion, after its write of the enable, and otherwise writes neither status bit. -/
theorem exchangeBit_status_cases {b : Bool} {s t : State} (h : exchangeBit b s = .next t) :
    (s.csN = false ∧ s.cd = 7) ∧ t.LevelCurrent ∨ t.penEn = s.penEn ∧ t.penIrq = s.penIrq := by
  cases hcs : s.csN with
  | true =>
    rw [exchangeBit_deselected b hcs] at h
    cases h
    exact .inr ⟨rfl, rfl⟩
  | false =>
    by_cases h7 : s.cd = 7
    · rw [exchangeBit_conversion b hcs h7] at h
      obtain ⟨u, hu, rfl⟩ := mapNext_next h
      obtain ⟨-, code, -, rfl⟩ := convert_next hu
      exact .inl ⟨⟨rfl, h7⟩, rfl⟩
    · rw [exchangeBit_clocked b hcs h7] at h
      cases h
      exact .inr ⟨rfl, rfl⟩

/-- What an operation does to the two status bits: a publish event leaves the level current, and every other operation
writes neither. -/
theorem perform_status_cases {op : BusOp} {s t : State} (h : perform op s = .next t) :
    PublishEvent op s ∧ t.LevelCurrent ∨ t.penEn = s.penEn ∧ t.penIrq = s.penIrq := by
  cases op with
  | setChipSelect level =>
    cases h
    by_cases hedge : level = false ∧ s.csN = true
    · obtain ⟨rfl, hcs⟩ := hedge
      rw [setChipSelect_edge hcs]
      exact .inl ⟨.inl ⟨rfl, hcs⟩, levelCurrent_publish _⟩
    · rw [setChipSelect_of_not_edge hedge]
      exact .inr ⟨rfl, rfl⟩
  | exchangeBit b =>
    exact (exchangeBit_status_cases h).imp_left fun ⟨hclock, hlevel⟩ => ⟨.inr (.inl ⟨b, rfl, hclock⟩), hlevel⟩
  | hardReset =>
    cases h
    exact .inl ⟨.inr (.inr (.inl rfl)), levelCurrent_publish _⟩
  | load img =>
    obtain ⟨_, _, _, _, _, _, _, -, rfl⟩ := loadImage_next h
    exact .inl ⟨.inr (.inr (.inr (.inl ⟨img, rfl⟩))), levelCurrent_publish _⟩
  | refreshPenIrq =>
    cases h
    exact .inl ⟨.inr (.inr (.inr (.inr rfl))), levelCurrent_publish _⟩
  | getPenIrq | size | save | input _ =>
    cases h
    exact .inr ⟨rfl, rfl⟩

/-- Settles O51: a step that publishes leaves a current level, which needs its enable, and any other step writes neither of
the two bits. -/
theorem everyStepKeepsTheLevelUnderItsEnable : Obligations.EveryStepKeepsTheLevelUnderItsEnable := by
  intro s t hs h
  obtain ⟨-, rfl⟩ | ⟨op, rest, -, hop⟩ := step_next h
  · exact hs
  · obtain ⟨-, hlevel⟩ | ⟨hpen, hirq⟩ := perform_status_cases hop
    · exact hlevel.levelEnabled
    · exact levelEnabled_of_status_eq hs hpen hirq

/-- Settles O42: an operation that is no publish event leaves the latch as it is. -/
theorem levelChangesOnlyAtPublishEvents : Obligations.LevelChangesOnlyAtPublishEvents := by
  intro s t h hne
  obtain ⟨-, rfl⟩ | ⟨op, rest, hscript, hop⟩ := step_next h
  · exact absurd rfl hne
  · obtain ⟨hevent, -⟩ | ⟨-, hirq⟩ := perform_status_cases hop
    · exact ⟨op, rest, hscript, hevent⟩
    · exact absurd hirq hne

/-- Settles O41: a refresh is the publish alone. -/
theorem refreshRecomputesTheLevelOnly : Obligations.RefreshRecomputesTheLevelOnly := by
  intro s
  rw [perform, refreshPenIrq, publish, penIrqLevel, State.ch, State.view]

/-- Settles O44: the answer recorded is the latch, by definition. -/
theorem getPenIrqAnswersTheLatch : Obligations.GetPenIrqAnswersTheLatch := fun _ => rfl

/-! The level a command publishes. -/

theorem isPermutation_of_configOk {cfg : Config} (h : configOk cfg = true) : cfg.layout.isPermutation = true := by
  obtain ⟨hsetup, -⟩ := Bool.and_eq_true_iff.mp h
  exact (Bool.and_eq_true_iff.mp hsetup).2

/-- A command that stands in `ctrl` publishes the level of its own channel. -/
theorem converted_penIrq_of_ctrl {i : Instr} {s : State} (hc : configOk s.cfg = true)
    (hctrl : s.ctrl = encode s.cfg.layout i) (code : Code) :
    (converted i.mode8 i.pd code s).penIrq
      = (!i.pd.getLsbD 0 && s.inp.touched && !s.cfg.touchChannels.contains i.fields.channel) := by
  have hfields : decodeFields s.cfg.layout s.ctrl = i.fields := by
    rw [hctrl, encode, decodeFields_encodeFields (isPermutation_of_configOk hc)]
  rw [converted, hfields]

/-- Settles O21: the level of the command's own channel is 0 for the touch channels, and the enable and the touch for the
others. -/
theorem touchRowsSuppressTheLevel : Obligations.TouchRowsSuppressTheLevel := by
  intro i s hready htouch hctrl
  obtain ⟨hc, -⟩ := Bool.and_eq_true_iff.mp hready
  obtain ⟨code, -, hexec⟩ := exists_exec_converted hready i
  refine ⟨_, hexec, fun hmem => ?_, fun hother => ?_⟩
  · rw [converted_penIrq_of_ctrl hc hctrl, htouch, List.contains_iff_mem.mpr hmem, Bool.not_true, Bool.and_false]
  · rw [converted_penIrq_of_ctrl hc hctrl, htouch, Bool.eq_false_iff.mpr (mt List.contains_iff_mem.mp hother),
      Bool.not_false, Bool.and_true]

/-! The refusals of a command. -/

/-- Only a linear entry refuses, and only for its coordinate (10_state.md R32). -/
theorem entryCode_error_iff {cfg : Config} {inp : Snapshot} {e : Entry} {r : Refusal} :
    entryCode cfg inp e = .error r ↔ r = .inputOutOfRange ∧ ∃ a srcMin srcMax dstMin dstMax,
      e = .linear a srcMin srcMax dstMin dstMax ∧ ¬ (0 ≤ coordinate inp a ∧ coordinate inp a ≤ 1) := by
  cases e with
  | const k => exact iff_of_false nofun fun ⟨_, _, _, _, _, _, he, _⟩ => nomatch he
  | port => exact iff_of_false nofun fun ⟨_, _, _, _, _, _, he, _⟩ => nomatch he
  | linear axis srcMin srcMax dstMin dstMax =>
    by_cases hunit : inUnit (coordinate inp axis) = true
    · rw [entryCode, if_pos hunit]
      refine iff_of_false nofun fun ⟨_, _, _, _, _, _, he, hout⟩ => ?_
      cases he
      exact hout ((inUnit_iff _).mp hunit)
    · rw [entryCode, if_neg hunit, Except.error.injEq, eq_comm]
      exact ⟨fun hr => ⟨hr, _, _, _, _, _, rfl, mt (inUnit_iff _).mpr hunit⟩, fun ⟨hr, _⟩ => hr⟩

/-- The override reads no entry, so it refuses nothing. -/
theorem conversionCode_error_iff {f : Fields} {cfg : Config} {inp : Snapshot} {r : Refusal} :
    conversionCode f cfg inp = .error r ↔
      f.powerSave ≠ 2 ∧ entryCode cfg inp (channelTable cfg f.differential f.channel inp.touched) = .error r := by
  by_cases hpd : f.powerSave = 2
  · rw [conversionCode_of_override hpd]
    exact iff_of_false nofun fun ⟨hne, _⟩ => hne hpd
  · rw [conversionCode_of_table hpd, and_iff_right hpd]

/-- A conversion is refused for its configuration, or else for want of a code. -/
theorem convert_refused_iff {f : Fields} {s : State} {r : Refusal} :
    convert f s = .refused r ↔
      configOk s.cfg = false ∧ r = .illFormedConfig ∨
        configOk s.cfg = true ∧ conversionCode f s.cfg s.inp = .error r := by
  cases hc : configOk s.cfg with
  | false => simp [convert, hc, eq_comm]
  | true => cases hk : conversionCode f s.cfg s.inp <;> simp [convert, hc, hk]

/-- Settles O17: the refusals of the conversion, of the choice of its code and of its table entry, one inside the other. -/
theorem commandsStopExactlyWhereTheSpecRefuses : Obligations.CommandsStopExactlyWhereTheSpecRefuses := by
  intro i s r
  rw [exec_eq_convert, convert_refused_iff, conversionCode_error_iff, entryCode_error_iff,
    and_left_comm (a := i.fields.powerSave ≠ 2)]
  rfl

/-! Runs from a ready state. -/

theorem ready_of_inputs_eq {s t : State} (h : s.ready = true) (hinp : t.inp = s.inp) (hcfg : t.cfg = s.cfg) :
    t.ready = true := by
  rwa [State.ready, hinp, hcfg]

/-- Only the conversion clock can be refused, and in a ready state its command has a code. -/
theorem exists_exchangeBit_of_ready (b : Bool) {s : State} (hready : s.ready = true) :
    ∃ t, exchangeBit b s = .next t := by
  cases hcs : s.csN with
  | true => exact ⟨_, exchangeBit_deselected b hcs⟩
  | false =>
    by_cases h7 : s.cd = 7
    · obtain ⟨hc, hinp⟩ := Bool.and_eq_true_iff.mp hready
      obtain ⟨code, hk⟩ := exists_conversionCode hinp (decodeFields s.cfg.layout s.ctrl) s.cfg
      exact ⟨_, exchangeBit_conversion_of_code b hcs h7 hc hk⟩
    · exact ⟨_, exchangeBit_clocked b hcs h7⟩

/-- An image within the contract has six bytes and a header in range. -/
theorem exists_bytes_of_imageOk {img : List Byte} (h : imageOk img = true) :
    ∃ b0 b1 b2 b3 b4 b5 rest, img = b0 :: b1 :: b2 :: b3 :: b4 :: b5 :: rest ∧ headerOk b0 b1 b5 := by
  unfold imageOk at h
  split at h
  next b0 b1 b2 b3 b4 b5 rest =>
    simp only [Bool.and_eq_true, decide_eq_true_eq] at h
    obtain ⟨⟨h0, h5⟩, h1⟩ := h
    exact ⟨b0, b1, b2, b3, b4, b5, rest, rfl, h0, h1, h5⟩
  next => cases h

/-- No allowed operation stops in a ready state. -/
theorem exists_perform_of_ready {op : BusOp} {s : State} (hready : s.ready = true) (hop : op.allowed = true) :
    ∃ t, perform op s = .next t := by
  cases op with
  | exchangeBit b => exact exists_exchangeBit_of_ready b hready
  | load img =>
    obtain ⟨b0, b1, b2, b3, b4, b5, rest, rfl, hheader⟩ := exists_bytes_of_imageOk hop
    exact ⟨_, loadImage_of_headerOk hheader b2 b3 b4 rest s⟩
  | setChipSelect _ | hardReset | refreshPenIrq | getPenIrq | size | save | input _ => exact ⟨_, rfl⟩

/-- An allowed operation keeps a ready state ready and its configuration: only the host's `INPUT` writes the snapshot, with
one in range. -/
theorem perform_keeps_ready {op : BusOp} {s t : State} (hready : s.ready = true) (hop : op.allowed = true)
    (h : perform op s = .next t) : t.ready = true ∧ t.cfg = s.cfg := by
  obtain ⟨-, hframe⟩ := inputsAreNeverWrittenByTheBlock
  by_cases hinput : ∃ i, op = .input i
  · obtain ⟨i, rfl⟩ := hinput
    cases h
    obtain ⟨hc, -⟩ := Bool.and_eq_true_iff.mp hready
    exact ⟨Bool.and_eq_true_iff.mpr ⟨hc, hop⟩, rfl⟩
  · obtain ⟨hinp, hcfg, -⟩ := hframe op s t (not_exists.mp hinput) h
    exact ⟨ready_of_inputs_eq hready hinp hcfg, hcfg⟩

/-- Settles O54: each operation of the sequence completes in a ready state and leaves one for the next. -/
theorem readyRunsNeverStop : Obligations.ReadyRunsNeverStop := by
  intro ops
  induction ops with
  | nil => exact fun s hready _ => ⟨s, rfl, hready, rfl⟩
  | cons op ops ih =>
    intro s hready hallowed
    obtain ⟨hop, hops⟩ := List.forall_mem_cons.mp hallowed
    obtain ⟨u, hfirst⟩ := exists_perform_of_ready hready hop
    obtain ⟨hreadyu, hcfgu⟩ := perform_keeps_ready hready hop hfirst
    obtain ⟨t, hothers, hreadyt, hcfgt⟩ := ih u hreadyu hops
    exact ⟨t, by rw [performAll_cons, hfirst, bindNext_of_next, hothers], hreadyt, hcfgt.trans hcfgu⟩

end Sys2Proof.Machine
end

section
/-! Reset and the idle bus (70_reset_and_hazards.md R260, R261, R268, R273): what a reselection and a hard reset leave, and
the state at power-on, whose registers are those the reset sequence writes. -/

namespace Sys2Proof.Machine

/-! The reset in operation. -/

/-- Settles O38: deselecting latches the line from any state, so that selecting is the assertion edge. -/
theorem reselectAbandonsTheFrame : Obligations.ReselectAbandonsTheFrame := by
  intro s
  have hdesel : perform desel s = .next { s with csN := true } := deassertionOnlyLatchesTheLine s
  have hsel : perform sel { s with csN := true } = .next { engineReset s with csN := false } :=
    assertionEdgeRunsTheResetSequence { s with csN := true } rfl
  rw [performAll_cons, hdesel, bindNext_of_next, performAll_cons, hsel, bindNext_of_next, performAll_nil]

/-- Settles O39: a hard reset is the reset sequence, whose result `engineReset` holds the line of the state before. -/
theorem hardResetKeepsTheLine : Obligations.HardResetKeepsTheLine := by
  intro s
  rw [perform, hardReset, resetSequence_eq_engineReset]

/-! The state at power-on. -/

/-- The power-on state is one the reset sequence leaves as it is, its published level included. -/
theorem resetSequence_powerOn (cfg : Config) (inp : Snapshot) :
    resetSequence (State.powerOn cfg inp) = State.powerOn cfg inp :=
  resetSequence_eq_engineReset _

theorem powerOn_penIrq_of_not_mem {cfg : Config} (h : 0 ∉ cfg.touchChannels) (inp : Snapshot) :
    (State.powerOn cfg inp).penIrq = inp.touched := by
  rw [State.powerOn, Bool.eq_false_iff.mpr (mt List.contains_iff_mem.mp h), Bool.not_false, Bool.and_true]

theorem powerOn_penIrq_of_mem {cfg : Config} (h : 0 ∈ cfg.touchChannels) (inp : Snapshot) :
    (State.powerOn cfg inp).penIrq = false := by
  rw [State.powerOn, List.contains_iff_mem.mpr h, Bool.not_true, Bool.and_false]

/-- Settles O40: the five saved elements are written out in `State.powerOn`, and the level depends on whether channel 0 is a
touch channel. -/
theorem powerOnLeavesTheResetValues : Obligations.PowerOnLeavesTheResetValues := by
  refine ⟨fun cfg inp => ⟨rfl, rfl, rfl, rfl, rfl, fun h => ?_, fun h => ?_⟩, rfl⟩
  · exact powerOn_penIrq_of_not_mem h inp
  · exact powerOn_penIrq_of_mem h inp

/-- The level at power-on is the one the reset sequence publishes. -/
theorem levelCurrent_powerOn (cfg : Config) (inp : Snapshot) : (State.powerOn cfg inp).LevelCurrent :=
  resetSequence_powerOn cfg inp ▸ levelCurrent_publish _

/-- At power-on no byte has been framed and `osr` is clear. -/
theorem wellFramed_powerOn (cfg : Config) (inp : Snapshot) : (State.powerOn cfg inp).wellFramed :=
  wellFramed_of_reset rfl rfl rfl

/-- An open entry stands as a constant, which is well-formed whatever its code is (43_channel_mapper.md R170, R171). -/
theorem configOk_atReset : configOk Config.atReset = true := by decide

theorem inRange_inputAtReset : inputAtReset.inRange = true := by decide

theorem ready_reset : State.reset.ready = true :=
  Bool.and_eq_true_iff.mpr ⟨configOk_atReset, inRange_inputAtReset⟩

/-- Settles O53: at power-on the level is current and the registers are framed, whatever the configuration and the snapshot
are; the reset state is one of the power-on states. -/
theorem powerOnMeetsTheInvariants : Obligations.PowerOnMeetsTheInvariants := by
  have hpowerOn (cfg : Config) (inp : Snapshot) : (State.powerOn cfg inp).levelEnabled = true ∧
      (State.powerOn cfg inp).framed = true ∧ (State.powerOn cfg inp).lowBitsClear = true :=
    ⟨(levelCurrent_powerOn cfg inp).levelEnabled, wellFramed_powerOn cfg inp⟩
  obtain ⟨hlevel, hframed, hlow⟩ := hpowerOn Config.atReset inputAtReset
  exact ⟨⟨hlevel, hframed, hlow, ready_reset⟩, hpowerOn⟩

/-! The idle bus. -/

/-- Settles O56: a step performs a pending operation, and there is none. -/
theorem idleBusChangesNothing : Obligations.IdleBusChangesNothing := by
  intro s hscript
  rw [step, performPending, hscript]

end Sys2Proof.Machine
end
